-- ==== Sys2Proof/Word.lean ====
section
/-!
DEFINITION. The word types of the ZCPD core (spec/00_scope.md R8, R9; spec/30_encoding.md R57).
-/

namespace Sys2Proof

/-- One operation word, 24 bits (R57). -/
abbrev OpWord := BitVec 24

/-- One 16-bit register, counter or host data word (R8). -/
abbrev Reg16 := BitVec 16

/-- One 8-bit element: CAL_IDX and CTRL_STATE (R8). -/
abbrev Reg8 := BitVec 8

/-- A host register address (R32, R41). -/
abbrev Addr := BitVec 4

end Sys2Proof
end

