-- ==== Sys2Proof/Config.lean ====
section
/-!
DEFINITION. The configuration record of spec/00_scope.md R6, its well-formedness R7, the reference instance RC,
the test instance TC of spec/95_test_vectors.md section 0.1, and the model's free values.
-/

namespace Sys2Proof

/-- CAL_EDGE_SOURCE (R6, R79): which edge event calibration waits for. -/
inductive EdgeSource where
  | accepted
  | raw
  deriving DecidableEq, Repr

/-- The configuration record (R6). Counts are natural numbers of ticks; ZC_IDLE_LEVEL and DELAY_EQ_FIRES are
1-bit values. -/
structure Config where
  /-- TICK_US: informational, no rule reads it (R5). -/
  tickUs : Nat
  minZcPeriod : Nat
  calWinLo : Nat
  calWinHi : Nat
  calN : Nat
  margin : Nat
  nominalPeriod : Nat
  minBase : Nat
  maxMin : Nat
  maxMax : Nat
  minMin : Nat
  minMax : Nat
  zcOffset : Nat
  safetyTimeout : Nat
  triggerPulseWidth : Nat
  calEdgeSource : EdgeSource
  zcIdleLevel : Bool
  delayEqFires : Bool
  deriving DecidableEq, Repr

/-- A configuration is well-formed when every constraint of R7 holds (`MARGIN ≥ 0` and `MIN_BASE ≥ 0` hold of
natural numbers). The recommendations of D35 are not constraints. -/
abbrev Config.WF (c : Config) : Prop :=
  (1 ≤ c.calN ∧ c.calN ≤ 255) ∧
  (c.calWinLo ≤ c.calWinHi ∧ c.calWinHi ≤ 0xFFFE) ∧
  c.calN * c.calWinHi ≤ 0xFFFF ∧
  c.minZcPeriod ≤ 0xFFFE ∧
  (1 ≤ c.nominalPeriod ∧ c.minBase * c.calWinHi ≤ 0xFFFFFFFF) ∧
  (c.maxMin ≤ c.maxMax ∧ c.maxMax ≤ 0xFFFF) ∧
  (c.minMin ≤ c.minMax ∧ c.minMax ≤ 0xFFFF) ∧
  (1 ≤ c.zcOffset ∧ c.zcOffset ≤ 0xFFFE) ∧
  (1 ≤ c.triggerPulseWidth ∧ c.triggerPulseWidth ≤ 0xFFFE) ∧
  (1 ≤ c.safetyTimeout ∧ c.safetyTimeout ≤ 0xFFFE)

/-- The reference configuration RC (R6's table, D33). -/
def Config.rc : Config where
  tickUs := 50
  minZcPeriod := 140
  calWinLo := 140
  calWinHi := 220
  calN := 8
  margin := 9
  nominalPeriod := 166
  minBase := 63
  maxMin := 120
  maxMax := 195
  minMin := 50
  minMax := 80
  zcOffset := 2
  safetyTimeout := 230
  triggerPulseWidth := 10
  calEdgeSource := .accepted
  zcIdleLevel := true
  delayEqFires := false

/-- The test configuration TC (95_test_vectors.md section 0.1). -/
def Config.tc : Config where
  tickUs := 50
  minZcPeriod := 3
  calWinLo := 4
  calWinHi := 8
  calN := 2
  margin := 1
  nominalPeriod := 6
  minBase := 3
  maxMin := 3
  maxMax := 7
  minMin := 1
  minMax := 3
  zcOffset := 1
  safetyTimeout := 7
  triggerPulseWidth := 2
  calEdgeSource := .accepted
  zcIdleLevel := true
  delayEqFires := false

/-- FREE VALUE, DESIGN CHOICE (log 11): what CAL_SUM holds when the exact sum of R89 does not fit 16 bits. R7 and R40
rule the case out of every run; no rule states the value. -/
opaque Config.unstatedCalSum : Nat → Reg16

/-- FREE VALUE, DESIGN CHOICE (log 11): what CAL_IDX holds when the exact count of R89 does not fit 8 bits. R40 rules
the case out of every run; no rule states the value. -/
opaque Config.unstatedCalIdx : Nat → Reg8

end Sys2Proof
end

