-- ==== Sys2Proof/Machine/State.lean ====
section
/-!
DEFINITION. The state of the ZCPD core (spec/10_state.md section 2), the reasons an operation can stop, and the state after
reset (spec/70_reset_and_hazards.md R147, R148).
-/

namespace Sys2Proof.Machine

/-- CAL_PHASE as the six values it can hold (R17; R64 allows the six-valued type: log 10). -/
inductive CalPhase where
  | waitLow1
  | waitHigh
  | waitLow2
  | waitRef
  | collect
  | done
  deriving DecidableEq, Repr

/-- The 3-bit value of CAL_PHASE (R64). -/
def CalPhase.code : CalPhase → BitVec 3
  | .waitLow1 => 0
  | .waitHigh => 1
  | .waitLow2 => 2
  | .waitRef => 3
  | .collect => 4
  | .done => 5

/-- The state: the block's thirteen elements (R15 to R28), and before them three fields of the model's own (cfg, ops,
rdata). Plain data. -/
structure State where
  /-- The configuration of this instance (R6): not state of the block (R30), no operation writes it (log 1). -/
  cfg : Config
  /-- The operation words issued by the two agents and not yet taken, first to take first (R48, R49; log 4). -/
  ops : List OpWord
  /-- RDATA: what the last operation returned to the host, nothing after an operation that returns nothing (R60, R74,
  R118; log 6). -/
  rdata : Option Reg16
  /-- ZC_PREV, 1 bit (R15). -/
  zcPrev : Bool
  /-- GUARD, 16 bits, saturating (R16). -/
  guard : Reg16
  /-- CAL_PHASE (R17). -/
  calPhase : CalPhase
  /-- CAL_CNT, 16 bits, saturating (R19). -/
  calCnt : Reg16
  /-- CAL_SUM, 16 bits (R20). -/
  calSum : Reg16
  /-- CAL_IDX, 8 bits (R21). -/
  calIdx : Reg8
  /-- MIN_DELAY, 16 bits (R22). -/
  minDelay : Reg16
  /-- MAX_DELAY, 16 bits (R23). -/
  maxDelay : Reg16
  /-- CTRL_STATE, 8 bits: 0 to 3, or an invalid value (R24, R65). -/
  ctrlState : Reg8
  /-- PHASE_CNT, 16 bits, wrapping (R25). -/
  phaseCnt : Reg16
  /-- GATE, 1 bit (R26). -/
  gate : Bool
  /-- HEARTBEAT, 1 bit (R27). -/
  heartbeat : Bool
  /-- DIM_TARGET, 16 bits (R28). -/
  dimTarget : Reg16
  deriving DecidableEq, Repr

/-- Faults: none. The block raises no exception, and no operation word, state or input traps or halts (R133, R135); the
type has no constructor, so no meaning can answer a fault (log 12). Safe. -/
inductive Fault where
  deriving DecidableEq, Repr

/-- Refusals: the cases the spec itself tells a model to refuse (R10), and the two that belong to the model. -/
inductive Refusal where
  /-- Raised by exec's arm for an operation that has no meaning yet; no arm raises it. Safe. -/
  | notModelled (mnemonic : String)
  /-- Raised by every operation when the configuration breaks a constraint of R7: "A model must refuse an ill-formed
  Config, so it never runs one" (R7, R10, I9; log 2). Safe. -/
  | illFormedConfig
  /-- Raised by a dispatch row given to exec in a state whose CAL_PHASE and CTRL_STATE do not select it (R66, R70). No
  step raises it: a TICK runs the row its state selects (log 8). Safe. -/
  | rowNotSelected
  deriving DecidableEq, Repr

/-- The state after reset of an instance with configuration `c` (R147), with nothing issued and nothing returned yet. -/
def State.resetOf (c : Config) : State where
  cfg := c
  ops := []
  rdata := none
  zcPrev := c.zcIdleLevel
  guard := 0
  calPhase := .waitLow1
  calCnt := 0
  calSum := 0
  calIdx := 0
  minDelay := 0
  maxDelay := 0
  ctrlState := 0
  phaseCnt := 0
  gate := false
  heartbeat := false
  dimTarget := 0xFFFF

/-- The machine right after reset or power-on (R148), as the reference instance RC (log 3). -/
def State.reset : State := State.resetOf Config.rc

/-! ### One update per field -/

/-- The state with a new `ops`. -/
def State.setOps (s : State) (x : List OpWord) : State := { s with ops := x }

/-- The state with a new `rdata`. -/
def State.setRdata (s : State) (x : Option Reg16) : State := { s with rdata := x }

/-- The state with a new `zcPrev`. -/
def State.setZcPrev (s : State) (x : Bool) : State := { s with zcPrev := x }

/-- The state with a new `guard`. -/
def State.setGuard (s : State) (x : Reg16) : State := { s with guard := x }

/-- The state with a new `calPhase`. -/
def State.setCalPhase (s : State) (x : CalPhase) : State := { s with calPhase := x }

/-- The state with a new `calCnt`. -/
def State.setCalCnt (s : State) (x : Reg16) : State := { s with calCnt := x }

/-- The state with a new `calSum`. -/
def State.setCalSum (s : State) (x : Reg16) : State := { s with calSum := x }

/-- The state with a new `calIdx`. -/
def State.setCalIdx (s : State) (x : Reg8) : State := { s with calIdx := x }

/-- The state with a new `minDelay`. -/
def State.setMinDelay (s : State) (x : Reg16) : State := { s with minDelay := x }

/-- The state with a new `maxDelay`. -/
def State.setMaxDelay (s : State) (x : Reg16) : State := { s with maxDelay := x }

/-- The state with a new `ctrlState`. -/
def State.setCtrlState (s : State) (x : Reg8) : State := { s with ctrlState := x }

/-- The state with a new `phaseCnt`. -/
def State.setPhaseCnt (s : State) (x : Reg16) : State := { s with phaseCnt := x }

/-- The state with a new `gate`. -/
def State.setGate (s : State) (x : Bool) : State := { s with gate := x }

/-- The state with a new `heartbeat`. -/
def State.setHeartbeat (s : State) (x : Bool) : State := { s with heartbeat := x }

/-- The state with a new `dimTarget`. -/
def State.setDimTarget (s : State) (x : Reg16) : State := { s with dimTarget := x }

end Sys2Proof.Machine
end

