-- ==== Sys2Proof/Machine/Ops.lean ====
section
/-!
DEFINITION. The named operations: the arithmetic primitives of spec/00_scope.md R10, and how an operation ends (how the next
operation is taken stands in Machine/Fetch.lean). There is no exception to take and none to return from (R133, R138, R139).
-/

namespace Sys2Proof.Machine

/-! ### Arithmetic (R10) -/

/-- `sat_inc16` (R10): stays at 0xFFFF. -/
def satInc16 (v : Reg16) : Reg16 := if v.toNat < 0xFFFF then BitVec.ofNat 16 (v.toNat + 1) else 0xFFFF

/-- `inc16` (R10): wraps to 0. -/
def inc16 (v : Reg16) : Reg16 := BitVec.ofNat 16 ((v.toNat + 1) % 0x10000)

/-- `clamp` on integers (R10). -/
def clamp (x lo hi : Int) : Int := if x < lo then lo else if x > hi then hi else x

/-- An exact CAL_SUM in its 16 bits; past them a free value (log 11). -/
def narrowCalSum (n : Nat) : Reg16 := if n ≤ 0xFFFF then BitVec.ofNat 16 n else Config.unstatedCalSum n

/-- An exact CAL_IDX in its 8 bits; past them a free value (log 11). -/
def narrowCalIdx (n : Nat) : Reg8 := if n ≤ 0xFF then BitVec.ofNat 8 n else Config.unstatedCalIdx n

/-! ### How an operation ends -/

/-- An operation completes with the state `t`, unless the configuration is ill-formed (R7, R10; log 2). -/
def complete (s t : State) : Host.Outcome State Fault Refusal :=
  if s.cfg.WF then .next t else .refused .illFormedConfig

/-- A dispatch row completes with the state `t` where the state selects it (R66; log 8). -/
def completeRow (selected : Bool) (s t : State) : Host.Outcome State Fault Refusal :=
  if selected then complete s t else .refused .rowNotSelected

end Sys2Proof.Machine
end

