-- ==== Sys2Proof/Machine/Flags.lean ====
section
/-!
DEFINITION. The 1-bit values that play the part of flags (spec/10_state.md R14): the per-tick signals `rising`, `accept` and
`ev` (R29), MODE (R18), the `armed` term of DELAY (R102), which row a state selects (R64 to R66), and the output lines (R31).
-/

namespace Sys2Proof.Machine

/-- `rising := z ∧ ¬ZC_PREV` (R75). -/
def rising (z : Bool) (s : State) : Bool := z && !s.zcPrev

/-- `accept := rising ∧ (GUARD > MIN_ZC_PERIOD)`, on the pre-tick GUARD (R77). -/
def accept (z : Bool) (s : State) : Bool := rising z s && decide (s.guard.toNat > s.cfg.minZcPeriod)

/-- `ev` (R79): the edge event of the calibration sequencer. -/
def calEvent (z : Bool) (s : State) : Bool :=
  match s.cfg.calEdgeSource with
  | .accepted => accept z s
  | .raw => rising z s

/-- MODE (R18): true is RUN mode. -/
def mode (s : State) : Bool := decide (s.calPhase = .done)

/-- Whether a DIM_TARGET of `d` ticks is armed, that is not OFF (R102). -/
def armed (c : Config) (d : Nat) : Bool :=
  decide (d < c.safetyTimeout) || (c.delayEqFires && decide (d = c.safetyTimeout))

/-- A row of format CAL_PHASE matches this state's CAL_PHASE (R66). -/
def selectsCal (p : CalPhase) (s : State) : Bool := decide (s.calPhase = p)

/-- A row of format CTRL_STATE matches this state: RUN mode, with this CTRL_STATE (R66, R70). -/
def selectsCtrl (v : Reg8) (s : State) : Bool := mode s && decide (s.ctrlState = v)

/-- `gate_out` (R31). -/
def gateOut (s : State) : Bool := s.gate

/-- `heartbeat_out` (R31). -/
def heartbeatOut (s : State) : Bool := s.heartbeat

/-- `cal_done` (R31). -/
def calDoneOut (s : State) : Bool := mode s

end Sys2Proof.Machine
end

