-- ==== Sys2Proof/Machine/Operands.lean ====
section
/-!
DEFINITION. Operands and the host register map (spec/30_encoding.md R62, spec/10_state.md R32 to R35).
-/

namespace Sys2Proof.Machine

/-- The CTRL_STATE that a FORCE_STATE write of `v` stores: `v[7:0]` (R34, R62). -/
def forcedState (v : Reg16) : Reg8 := v.extractLsb' 0 8

/-- The STATUS word `{CTRL_STATE[7:0], 0, ZC_PREV, HEARTBEAT, GATE, CAL_PHASE[2:0], MODE}` (R33). -/
def statusWord (s : State) : Reg16 :=
  s.ctrlState ++ 0#1 ++ BitVec.ofBool s.zcPrev ++ BitVec.ofBool s.heartbeat ++ BitVec.ofBool s.gate ++
    s.calPhase.code ++ BitVec.ofBool (mode s)

/-- CAL_IDX as the host reads it, `{0x00, CAL_IDX[7:0]}` (R32, R127). -/
def calIdxWord (s : State) : Reg16 := 0#8 ++ s.calIdx

/-- `MemRead(a)`: the value the host reads at address `a` (R10, R32). -/
def hostRegister (a : Addr) (s : State) : Reg16 :=
  match a.toNat with
  | 0 => s.dimTarget
  | 1 => s.minDelay
  | 2 => s.maxDelay
  | 3 => statusWord s
  | 4 => s.phaseCnt
  | 5 => s.guard
  | 6 => s.calCnt
  | 7 => s.calSum
  | 8 => calIdxWord s
  | _ => 0

/-- `MemWrite(a, v)`: what a WRITE of `v` to address `a` leaves of the block (R10, R32, R46). -/
def hostRegisterWrite (a : Addr) (v : Reg16) (s : State) : State :=
  match a.toNat with
  | 0 => s.setDimTarget v
  | 9 => s.setCtrlState (forcedState v)
  | _ => s

/-- A WRITE as a whole: the register write, and nothing returned (R45, R132). -/
def hostWrite (a : Addr) (v : Reg16) (s : State) : State := (hostRegisterWrite a v s).setRdata none

/-- A READ as a whole: RDATA is the register's value and no element changes (R46, R118). -/
def hostRead (a : Addr) (s : State) : State := s.setRdata (some (hostRegister a s))

end Sys2Proof.Machine
end

