-- ==== Sys2Proof/Machine/Calibration.lean ====
section
/-!
DEFINITION. The calibration sequencer (spec/42_calibration.md): CalStep of R69, one phase rule per value of CAL_PHASE, and the
meanings of the rows of format CAL_PHASE but CAL.DONE (Machine/PhaseControl.lean).
-/

namespace Sys2Proof.Machine

/-- `cnt1 := sat_inc16(CAL_CNT)` (R84). -/
def cnt1 (s : State) : Reg16 := satInc16 s.calCnt

/-! ### Average, bounds and publication -/

/-- `avgPeriod := sum div CAL_N` (R90). -/
def avgPeriod (c : Config) (sum : Nat) : Nat := sum / c.calN

/-- maxDelay of an average (R91), on integers. -/
def maxDelayOf (c : Config) (avg : Nat) : Int := clamp ((avg : Int) - c.margin) c.maxMin c.maxMax

/-- minDelay of an average (R92), on integers: product, then division, then `− 1`, then the clamp. -/
def minDelayOf (c : Config) (avg : Nat) : Int :=
  clamp (((avg * c.minBase / c.nominalPeriod : Nat) : Int) - 1) c.minMin c.minMax

/-- `Publish(sum)` (R93). -/
def publish (sum : Nat) (s : State) : State :=
  let avg := avgPeriod s.cfg sum
  ((s.setMaxDelay (BitVec.ofInt 16 (maxDelayOf s.cfg avg))).setMinDelay
    (BitVec.ofInt 16 (minDelayOf s.cfg avg))).setCalPhase .done

/-! ### The phase rules -/

/-- WAIT_LOW1 (R85). -/
def waitLow1Step (z : Bool) (s : State) : State :=
  let s1 := s.setCalCnt (cnt1 s)
  if z then s1 else s1.setCalPhase .waitHigh

/-- WAIT_HIGH (R86). -/
def waitHighStep (z : Bool) (s : State) : State :=
  let s1 := s.setCalCnt (cnt1 s)
  if z then s1.setCalPhase .waitLow2 else s1

/-- WAIT_LOW2 (R87). -/
def waitLow2Step (z : Bool) (s : State) : State :=
  let s1 := s.setCalCnt (cnt1 s)
  if z then s1 else s1.setCalPhase .waitRef

/-- WAIT_REF (R88). -/
def waitRefStep (ev : Bool) (s : State) : State :=
  if ev then (((s.setCalCnt 0).setCalSum 0).setCalIdx 0).setCalPhase .collect
  else s.setCalCnt (cnt1 s)

/-- A sample is valid when it lies in the window, both ends included (R89). -/
def validSample (c : Config) (sample : Nat) : Bool := decide (c.calWinLo ≤ sample) && decide (sample ≤ c.calWinHi)

/-- Taking a valid sample (R89): the sum and the count are exact integers (R9, R10); the last sample publishes. -/
def takeSample (sample : Nat) (s : State) : State :=
  let sum := s.calSum.toNat + sample
  let idx := s.calIdx.toNat + 1
  let s1 := (s.setCalSum (narrowCalSum sum)).setCalIdx (narrowCalIdx idx)
  if idx = s.cfg.calN then publish sum s1 else s1

/-- COLLECT (R89). -/
def collectStep (ev : Bool) (s : State) : State :=
  if ev then
    let sample := (cnt1 s).toNat
    let s1 := s.setCalCnt 0
    if validSample s.cfg sample then takeSample sample s1 else s1
  else s.setCalCnt (cnt1 s)

/-! ### The meanings of the rows -/

/-- CAL.WAIT_LOW1 (R85). -/
def execCalWaitLow1 (z : Bool) (s : State) : Host.Outcome State Fault Refusal :=
  completeRow (selectsCal .waitLow1 s) s (waitLow1Step z s)

/-- CAL.WAIT_HIGH (R86). -/
def execCalWaitHigh (z : Bool) (s : State) : Host.Outcome State Fault Refusal :=
  completeRow (selectsCal .waitHigh s) s (waitHighStep z s)

/-- CAL.WAIT_LOW2 (R87). -/
def execCalWaitLow2 (z : Bool) (s : State) : Host.Outcome State Fault Refusal :=
  completeRow (selectsCal .waitLow2 s) s (waitLow2Step z s)

/-- CAL.WAIT_REF (R88). -/
def execCalWaitRef (ev : Bool) (s : State) : Host.Outcome State Fault Refusal :=
  completeRow (selectsCal .waitRef s) s (waitRefStep ev s)

/-- CAL.COLLECT (R89 to R93). -/
def execCalCollect (ev : Bool) (s : State) : Host.Outcome State Fault Refusal :=
  completeRow (selectsCal .collect s) s (collectStep ev s)

end Sys2Proof.Machine
end

