-- ==== Sys2Proof/Machine/HostRead.lean ====
section
/-!
DEFINITION. The READ operations (spec/44_host_ops.md R118 to R129).
-/

namespace Sys2Proof.Machine

/-- RD DIM_TARGET (R119). -/
def execRdDimTarget (s : State) : Host.Outcome State Fault Refusal := complete s (hostRead 0x0 s)

/-- RD MIN_DELAY (R120). -/
def execRdMinDelay (s : State) : Host.Outcome State Fault Refusal := complete s (hostRead 0x1 s)

/-- RD MAX_DELAY (R121). -/
def execRdMaxDelay (s : State) : Host.Outcome State Fault Refusal := complete s (hostRead 0x2 s)

/-- RD STATUS (R122). -/
def execRdStatus (s : State) : Host.Outcome State Fault Refusal := complete s (hostRead 0x3 s)

/-- RD PHASE_CNT (R123). -/
def execRdPhaseCnt (s : State) : Host.Outcome State Fault Refusal := complete s (hostRead 0x4 s)

/-- RD GUARD (R124). -/
def execRdGuard (s : State) : Host.Outcome State Fault Refusal := complete s (hostRead 0x5 s)

/-- RD CAL_CNT (R125). -/
def execRdCalCnt (s : State) : Host.Outcome State Fault Refusal := complete s (hostRead 0x6 s)

/-- RD CAL_SUM (R126). -/
def execRdCalSum (s : State) : Host.Outcome State Fault Refusal := complete s (hostRead 0x7 s)

/-- RD CAL_IDX (R127). -/
def execRdCalIdx (s : State) : Host.Outcome State Fault Refusal := complete s (hostRead 0x8 s)

/-- RD FORCE_STATE (R128). -/
def execRdForceState (s : State) : Host.Outcome State Fault Refusal := complete s (hostRead 0x9 s)

/-- RD UNMAPPED_A (R129). -/
def execRdUnmappedA (s : State) : Host.Outcome State Fault Refusal := complete s (hostRead 0xA s)

/-- RD UNMAPPED_B (R129). -/
def execRdUnmappedB (s : State) : Host.Outcome State Fault Refusal := complete s (hostRead 0xB s)

/-- RD UNMAPPED_C (R129). -/
def execRdUnmappedC (s : State) : Host.Outcome State Fault Refusal := complete s (hostRead 0xC s)

/-- RD UNMAPPED_D (R129). -/
def execRdUnmappedD (s : State) : Host.Outcome State Fault Refusal := complete s (hostRead 0xD s)

/-- RD UNMAPPED_E (R129). -/
def execRdUnmappedE (s : State) : Host.Outcome State Fault Refusal := complete s (hostRead 0xE s)

/-- RD UNMAPPED_F (R129). -/
def execRdUnmappedF (s : State) : Host.Outcome State Fault Refusal := complete s (hostRead 0xF s)

end Sys2Proof.Machine
end

