-- ==== Sys2Proof/Machine/HostWrite.lean ====
section
/-!
DEFINITION. The WRITE operations (spec/44_host_ops.md R114 to R117): only DIM_TARGET and FORCE_STATE have an effect.
-/

namespace Sys2Proof.Machine

/-- WR DIM_TARGET, v (R114). -/
def execWrDimTarget (v : Reg16) (s : State) : Host.Outcome State Fault Refusal := complete s (hostWrite 0x0 v s)

/-- WR MIN_DELAY, v (R116). -/
def execWrMinDelay (v : Reg16) (s : State) : Host.Outcome State Fault Refusal := complete s (hostWrite 0x1 v s)

/-- WR MAX_DELAY, v (R116). -/
def execWrMaxDelay (v : Reg16) (s : State) : Host.Outcome State Fault Refusal := complete s (hostWrite 0x2 v s)

/-- WR STATUS, v (R116). -/
def execWrStatus (v : Reg16) (s : State) : Host.Outcome State Fault Refusal := complete s (hostWrite 0x3 v s)

/-- WR PHASE_CNT, v (R116). -/
def execWrPhaseCnt (v : Reg16) (s : State) : Host.Outcome State Fault Refusal := complete s (hostWrite 0x4 v s)

/-- WR GUARD, v (R116). -/
def execWrGuard (v : Reg16) (s : State) : Host.Outcome State Fault Refusal := complete s (hostWrite 0x5 v s)

/-- WR CAL_CNT, v (R116). -/
def execWrCalCnt (v : Reg16) (s : State) : Host.Outcome State Fault Refusal := complete s (hostWrite 0x6 v s)

/-- WR CAL_SUM, v (R116). -/
def execWrCalSum (v : Reg16) (s : State) : Host.Outcome State Fault Refusal := complete s (hostWrite 0x7 v s)

/-- WR CAL_IDX, v (R116). -/
def execWrCalIdx (v : Reg16) (s : State) : Host.Outcome State Fault Refusal := complete s (hostWrite 0x8 v s)

/-- WR FORCE_STATE, v (R115). -/
def execWrForceState (v : Reg16) (s : State) : Host.Outcome State Fault Refusal := complete s (hostWrite 0x9 v s)

/-- WR UNMAPPED_A, v (R117). -/
def execWrUnmappedA (v : Reg16) (s : State) : Host.Outcome State Fault Refusal := complete s (hostWrite 0xA v s)

/-- WR UNMAPPED_B, v (R117). -/
def execWrUnmappedB (v : Reg16) (s : State) : Host.Outcome State Fault Refusal := complete s (hostWrite 0xB v s)

/-- WR UNMAPPED_C, v (R117). -/
def execWrUnmappedC (v : Reg16) (s : State) : Host.Outcome State Fault Refusal := complete s (hostWrite 0xC v s)

/-- WR UNMAPPED_D, v (R117). -/
def execWrUnmappedD (v : Reg16) (s : State) : Host.Outcome State Fault Refusal := complete s (hostWrite 0xD v s)

/-- WR UNMAPPED_E, v (R117). -/
def execWrUnmappedE (v : Reg16) (s : State) : Host.Outcome State Fault Refusal := complete s (hostWrite 0xE v s)

/-- WR UNMAPPED_F, v (R117). -/
def execWrUnmappedF (v : Reg16) (s : State) : Host.Outcome State Fault Refusal := complete s (hostWrite 0xF v s)

end Sys2Proof.Machine
end

