-- ==== Sys2Proof/Machine/PhaseControl.lean ====
section
/-!
DEFINITION. Phase control and the gate pulse driver (spec/43_phase_control.md): PhaseStep of R69, one state rule per value of
CTRL_STATE, and the meanings of the rows of format CTRL_STATE and of CAL.DONE.
-/

namespace Sys2Proof.Machine

/-- CTRL_STATE values (R65). -/
def ctrlIdle : Reg8 := 0x00
/-- CTRL_STATE values (R65). -/
def ctrlOffset : Reg8 := 0x01
/-- CTRL_STATE values (R65). -/
def ctrlDelay : Reg8 := 0x02
/-- CTRL_STATE values (R65). -/
def ctrlTrigger : Reg8 := 0x03

/-- IDLE (R100). -/
def idleStep (accept : Bool) (s : State) : State :=
  if accept then ((s.setPhaseCnt 0).setHeartbeat (!s.heartbeat)).setCtrlState ctrlOffset else s

/-- OFFSET (R101). -/
def offsetStep (s : State) : State :=
  let c := inc16 s.phaseCnt
  if c.toNat ≥ s.cfg.zcOffset then (s.setPhaseCnt 0).setCtrlState ctrlDelay else s.setPhaseCnt c

/-- DELAY (R102): DIM_TARGET is read once; the fire test comes before the timeout test. -/
def delayStep (s : State) : State :=
  let c := inc16 s.phaseCnt
  let d := s.dimTarget.toNat
  if c.toNat ≥ d ∧ armed s.cfg d then ((s.setGate true).setPhaseCnt 0).setCtrlState ctrlTrigger
  else if c.toNat ≥ s.cfg.safetyTimeout then ((s.setGate false).setPhaseCnt c).setCtrlState ctrlIdle
  else s.setPhaseCnt c

/-- TRIGGER (R103). -/
def triggerStep (s : State) : State :=
  let c := inc16 s.phaseCnt
  let s1 := s.setPhaseCnt c
  if c.toNat ≥ s.cfg.triggerPulseWidth then (s1.setGate false).setCtrlState ctrlIdle else s1

/-- INVALID (R104): self-heal. -/
def invalidStep (s : State) : State := (s.setGate false).setCtrlState ctrlIdle

/-- PhaseStep(accept) of R69: the state rule that CTRL_STATE selects (R65, R99). -/
def phaseStep (accept : Bool) (s : State) : State :=
  if s.ctrlState = ctrlIdle then idleStep accept s
  else if s.ctrlState = ctrlOffset then offsetStep s
  else if s.ctrlState = ctrlDelay then delayStep s
  else if s.ctrlState = ctrlTrigger then triggerStep s
  else invalidStep s

/-! ### The meanings of the rows -/

/-- CAL.DONE (R64, R70): no calibration step; the TICK goes on to the CTRL_STATE rows. -/
def execCalDone (accept : Bool) (s : State) : Host.Outcome State Fault Refusal :=
  completeRow (selectsCal .done s) s (phaseStep accept s)

/-- PC.IDLE (R100). -/
def execPcIdle (accept : Bool) (s : State) : Host.Outcome State Fault Refusal :=
  completeRow (selectsCtrl ctrlIdle s) s (idleStep accept s)

/-- PC.OFFSET (R101). -/
def execPcOffset (s : State) : Host.Outcome State Fault Refusal :=
  completeRow (selectsCtrl ctrlOffset s) s (offsetStep s)

/-- PC.DELAY (R102). -/
def execPcDelay (s : State) : Host.Outcome State Fault Refusal :=
  completeRow (selectsCtrl ctrlDelay s) s (delayStep s)

/-- PC.TRIGGER (R103). -/
def execPcTrigger (s : State) : Host.Outcome State Fault Refusal :=
  completeRow (selectsCtrl ctrlTrigger s) s (triggerStep s)

/-- PC.INVALID.04, CTRL_STATE 0x04 to 0x07 (R104). -/
def execPcInvalid04 (low : BitVec 2) (s : State) : Host.Outcome State Fault Refusal :=
  completeRow (selectsCtrl (1#6 ++ low) s) s (invalidStep s)

/-- PC.INVALID.08, CTRL_STATE 0x08 to 0x0F (R104). -/
def execPcInvalid08 (low : BitVec 3) (s : State) : Host.Outcome State Fault Refusal :=
  completeRow (selectsCtrl (1#5 ++ low) s) s (invalidStep s)

/-- PC.INVALID.10, CTRL_STATE 0x10 to 0x1F (R104). -/
def execPcInvalid10 (low : BitVec 4) (s : State) : Host.Outcome State Fault Refusal :=
  completeRow (selectsCtrl (1#4 ++ low) s) s (invalidStep s)

/-- PC.INVALID.20, CTRL_STATE 0x20 to 0x3F (R104). -/
def execPcInvalid20 (low : BitVec 5) (s : State) : Host.Outcome State Fault Refusal :=
  completeRow (selectsCtrl (1#3 ++ low) s) s (invalidStep s)

/-- PC.INVALID.40, CTRL_STATE 0x40 to 0x7F (R104). -/
def execPcInvalid40 (low : BitVec 6) (s : State) : Host.Outcome State Fault Refusal :=
  completeRow (selectsCtrl (1#2 ++ low) s) s (invalidStep s)

/-- PC.INVALID.80, CTRL_STATE 0x80 to 0xFF (R104). -/
def execPcInvalid80 (low : BitVec 7) (s : State) : Host.Outcome State Fault Refusal :=
  completeRow (selectsCtrl (1#1 ++ low) s) s (invalidStep s)

end Sys2Proof.Machine
end

