-- ==== Sys2Proof/Syntax.lean ====
section
/-!
DEFINITION. The operations of the ZCPD core, one constructor for each row of spec/opcode_table.json: the operation
words (TICK, WRITE, READ, RESET, ILLEGAL; spec/30_encoding.md R57 to R63) and the rows that a TICK dispatches to
(formats CAL_PHASE and CTRL_STATE; R64 to R66). A WRITE row carries DATA. A dispatch row carries the per-tick signals its
rule names as operands (log 7), an INVALID row the bits of CTRL_STATE its mask leaves free, and ILLEGAL its word.
-/

namespace Sys2Proof

/-- The formats of spec/opcode_table.json. -/
inductive Format where
  | tick
  | write
  | read
  | reset
  | calPhase
  | ctrlState
  | illegal
  deriving DecidableEq, Repr

/-- The operations (spec/opcode_table.json). -/
inductive Instr where
  /-- TICK_0 (R69). -/
  | tick0
  /-- TICK_1 (R69). -/
  | tick1
  /-- WR_DIM_TARGET__v (R114). -/
  | wrDimTarget (v : Reg16)
  /-- WR_MIN_DELAY__v (R116). -/
  | wrMinDelay (v : Reg16)
  /-- WR_MAX_DELAY__v (R116). -/
  | wrMaxDelay (v : Reg16)
  /-- WR_STATUS__v (R116). -/
  | wrStatus (v : Reg16)
  /-- WR_PHASE_CNT__v (R116). -/
  | wrPhaseCnt (v : Reg16)
  /-- WR_GUARD__v (R116). -/
  | wrGuard (v : Reg16)
  /-- WR_CAL_CNT__v (R116). -/
  | wrCalCnt (v : Reg16)
  /-- WR_CAL_SUM__v (R116). -/
  | wrCalSum (v : Reg16)
  /-- WR_CAL_IDX__v (R116). -/
  | wrCalIdx (v : Reg16)
  /-- WR_FORCE_STATE__v (R115). -/
  | wrForceState (v : Reg16)
  /-- WR_UNMAPPED_A__v (R117). -/
  | wrUnmappedA (v : Reg16)
  /-- WR_UNMAPPED_B__v (R117). -/
  | wrUnmappedB (v : Reg16)
  /-- WR_UNMAPPED_C__v (R117). -/
  | wrUnmappedC (v : Reg16)
  /-- WR_UNMAPPED_D__v (R117). -/
  | wrUnmappedD (v : Reg16)
  /-- WR_UNMAPPED_E__v (R117). -/
  | wrUnmappedE (v : Reg16)
  /-- WR_UNMAPPED_F__v (R117). -/
  | wrUnmappedF (v : Reg16)
  /-- RD_DIM_TARGET (R119). -/
  | rdDimTarget
  /-- RD_MIN_DELAY (R120). -/
  | rdMinDelay
  /-- RD_MAX_DELAY (R121). -/
  | rdMaxDelay
  /-- RD_STATUS (R122). -/
  | rdStatus
  /-- RD_PHASE_CNT (R123). -/
  | rdPhaseCnt
  /-- RD_GUARD (R124). -/
  | rdGuard
  /-- RD_CAL_CNT (R125). -/
  | rdCalCnt
  /-- RD_CAL_SUM (R126). -/
  | rdCalSum
  /-- RD_CAL_IDX (R127). -/
  | rdCalIdx
  /-- RD_FORCE_STATE (R128). -/
  | rdForceState
  /-- RD_UNMAPPED_A (R129). -/
  | rdUnmappedA
  /-- RD_UNMAPPED_B (R129). -/
  | rdUnmappedB
  /-- RD_UNMAPPED_C (R129). -/
  | rdUnmappedC
  /-- RD_UNMAPPED_D (R129). -/
  | rdUnmappedD
  /-- RD_UNMAPPED_E (R129). -/
  | rdUnmappedE
  /-- RD_UNMAPPED_F (R129). -/
  | rdUnmappedF
  /-- RST (R147). -/
  | rst
  /-- CAL.WAIT_LOW1 (R85). -/
  | calWaitLow1 (z : Bool)
  /-- CAL.WAIT_HIGH (R86). -/
  | calWaitHigh (z : Bool)
  /-- CAL.WAIT_LOW2 (R87). -/
  | calWaitLow2 (z : Bool)
  /-- CAL.WAIT_REF (R88). -/
  | calWaitRef (ev : Bool)
  /-- CAL.COLLECT (R89). -/
  | calCollect (ev : Bool)
  /-- CAL.DONE (R70). -/
  | calDone (accept : Bool)
  /-- PC.IDLE (R100). -/
  | pcIdle (accept : Bool)
  /-- PC.OFFSET (R101). -/
  | pcOffset
  /-- PC.DELAY (R102). -/
  | pcDelay
  /-- PC.TRIGGER (R103). -/
  | pcTrigger
  /-- PC.INVALID.04 (R104). -/
  | pcInvalid04 (low : BitVec 2)
  /-- PC.INVALID.08 (R104). -/
  | pcInvalid08 (low : BitVec 3)
  /-- PC.INVALID.10 (R104). -/
  | pcInvalid10 (low : BitVec 4)
  /-- PC.INVALID.20 (R104). -/
  | pcInvalid20 (low : BitVec 5)
  /-- PC.INVALID.40 (R104). -/
  | pcInvalid40 (low : BitVec 6)
  /-- PC.INVALID.80 (R104). -/
  | pcInvalid80 (low : BitVec 7)
  /-- ILLEGAL (R63). -/
  | illegal (w : OpWord)
  deriving DecidableEq, Repr

/-- The row's mnemonic, as spec/opcode_table.json spells it. -/
def Instr.mnemonic : Instr → String
  | .tick0 => "TICK_0"
  | .tick1 => "TICK_1"
  | .wrDimTarget _ => "WR_DIM_TARGET__v"
  | .wrMinDelay _ => "WR_MIN_DELAY__v"
  | .wrMaxDelay _ => "WR_MAX_DELAY__v"
  | .wrStatus _ => "WR_STATUS__v"
  | .wrPhaseCnt _ => "WR_PHASE_CNT__v"
  | .wrGuard _ => "WR_GUARD__v"
  | .wrCalCnt _ => "WR_CAL_CNT__v"
  | .wrCalSum _ => "WR_CAL_SUM__v"
  | .wrCalIdx _ => "WR_CAL_IDX__v"
  | .wrForceState _ => "WR_FORCE_STATE__v"
  | .wrUnmappedA _ => "WR_UNMAPPED_A__v"
  | .wrUnmappedB _ => "WR_UNMAPPED_B__v"
  | .wrUnmappedC _ => "WR_UNMAPPED_C__v"
  | .wrUnmappedD _ => "WR_UNMAPPED_D__v"
  | .wrUnmappedE _ => "WR_UNMAPPED_E__v"
  | .wrUnmappedF _ => "WR_UNMAPPED_F__v"
  | .rdDimTarget => "RD_DIM_TARGET"
  | .rdMinDelay => "RD_MIN_DELAY"
  | .rdMaxDelay => "RD_MAX_DELAY"
  | .rdStatus => "RD_STATUS"
  | .rdPhaseCnt => "RD_PHASE_CNT"
  | .rdGuard => "RD_GUARD"
  | .rdCalCnt => "RD_CAL_CNT"
  | .rdCalSum => "RD_CAL_SUM"
  | .rdCalIdx => "RD_CAL_IDX"
  | .rdForceState => "RD_FORCE_STATE"
  | .rdUnmappedA => "RD_UNMAPPED_A"
  | .rdUnmappedB => "RD_UNMAPPED_B"
  | .rdUnmappedC => "RD_UNMAPPED_C"
  | .rdUnmappedD => "RD_UNMAPPED_D"
  | .rdUnmappedE => "RD_UNMAPPED_E"
  | .rdUnmappedF => "RD_UNMAPPED_F"
  | .rst => "RST"
  | .calWaitLow1 _ => "CAL.WAIT_LOW1"
  | .calWaitHigh _ => "CAL.WAIT_HIGH"
  | .calWaitLow2 _ => "CAL.WAIT_LOW2"
  | .calWaitRef _ => "CAL.WAIT_REF"
  | .calCollect _ => "CAL.COLLECT"
  | .calDone _ => "CAL.DONE"
  | .pcIdle _ => "PC.IDLE"
  | .pcOffset => "PC.OFFSET"
  | .pcDelay => "PC.DELAY"
  | .pcTrigger => "PC.TRIGGER"
  | .pcInvalid04 _ => "PC.INVALID.04"
  | .pcInvalid08 _ => "PC.INVALID.08"
  | .pcInvalid10 _ => "PC.INVALID.10"
  | .pcInvalid20 _ => "PC.INVALID.20"
  | .pcInvalid40 _ => "PC.INVALID.40"
  | .pcInvalid80 _ => "PC.INVALID.80"
  | .illegal _ => "ILLEGAL"

/-- The row's format, as spec/opcode_table.json gives it. -/
def Instr.format : Instr → Format
  | .tick0 => .tick
  | .tick1 => .tick
  | .wrDimTarget _ => .write
  | .wrMinDelay _ => .write
  | .wrMaxDelay _ => .write
  | .wrStatus _ => .write
  | .wrPhaseCnt _ => .write
  | .wrGuard _ => .write
  | .wrCalCnt _ => .write
  | .wrCalSum _ => .write
  | .wrCalIdx _ => .write
  | .wrForceState _ => .write
  | .wrUnmappedA _ => .write
  | .wrUnmappedB _ => .write
  | .wrUnmappedC _ => .write
  | .wrUnmappedD _ => .write
  | .wrUnmappedE _ => .write
  | .wrUnmappedF _ => .write
  | .rdDimTarget => .read
  | .rdMinDelay => .read
  | .rdMaxDelay => .read
  | .rdStatus => .read
  | .rdPhaseCnt => .read
  | .rdGuard => .read
  | .rdCalCnt => .read
  | .rdCalSum => .read
  | .rdCalIdx => .read
  | .rdForceState => .read
  | .rdUnmappedA => .read
  | .rdUnmappedB => .read
  | .rdUnmappedC => .read
  | .rdUnmappedD => .read
  | .rdUnmappedE => .read
  | .rdUnmappedF => .read
  | .rst => .reset
  | .calWaitLow1 _ => .calPhase
  | .calWaitHigh _ => .calPhase
  | .calWaitLow2 _ => .calPhase
  | .calWaitRef _ => .calPhase
  | .calCollect _ => .calPhase
  | .calDone _ => .calPhase
  | .pcIdle _ => .ctrlState
  | .pcOffset => .ctrlState
  | .pcDelay => .ctrlState
  | .pcTrigger => .ctrlState
  | .pcInvalid04 _ => .ctrlState
  | .pcInvalid08 _ => .ctrlState
  | .pcInvalid10 _ => .ctrlState
  | .pcInvalid20 _ => .ctrlState
  | .pcInvalid40 _ => .ctrlState
  | .pcInvalid80 _ => .ctrlState
  | .illegal _ => .illegal

end Sys2Proof
end

