-- ==== Sys2Proof/Decode.lean ====
section
/-!
DEFINITION. Decoding and encoding (spec/30_encoding.md): the operation word (R57 to R63), the dispatch values of a TICK
(R64 to R66), the encoder written from the same layouts, and the word rows of spec/opcode_table.json as data.
-/

namespace Sys2Proof

/-! ### The fields of an operation word (R57 to R60) -/

/-- OP, `w[23:22]` (R57). -/
def opField (w : OpWord) : BitVec 2 := w.extractLsb' 22 2

/-- ADDR, `w[19:16]` (R59, R60). -/
def addrField (w : OpWord) : Addr := w.extractLsb' 16 4

/-- DATA, `w[15:0]` (R59). -/
def dataField (w : OpWord) : Reg16 := w.extractLsb' 0 16

/-- ZC, `w[0]` (R58). -/
def zcField (w : OpWord) : Bool := w.getLsbD 0

/-- The reserved bits of each format: `w[21:1]` of a TICK, `w[21:20]` of a WRITE, `w[21:20]` and `w[15:0]` of a READ,
`w[21:0]` of a RESET (R63). -/
def reservedMask (op : BitVec 2) : OpWord :=
  match op.toNat with
  | 0 => 0x3FFFFE#24
  | 1 => 0x300000#24
  | 2 => 0x30FFFF#24
  | _ => 0x3FFFFF#24

/-- A word is illegal when a reserved bit of its format is 1 (R63). -/
def isIllegalWord (w : OpWord) : Bool := (w &&& reservedMask (opField w)) != 0

/-- A word whose OP is READ: an illegal one still returns RDATA = 0 (R63). -/
def isReadShaped (w : OpWord) : Bool := opField w == 2

/-! ### Decoding -/

/-- The WRITE rows by address (R32, R59). -/
def decodeWrite (a : Addr) (v : Reg16) : Instr :=
  match a.toNat with
  | 0 => .wrDimTarget v
  | 1 => .wrMinDelay v
  | 2 => .wrMaxDelay v
  | 3 => .wrStatus v
  | 4 => .wrPhaseCnt v
  | 5 => .wrGuard v
  | 6 => .wrCalCnt v
  | 7 => .wrCalSum v
  | 8 => .wrCalIdx v
  | 9 => .wrForceState v
  | 10 => .wrUnmappedA v
  | 11 => .wrUnmappedB v
  | 12 => .wrUnmappedC v
  | 13 => .wrUnmappedD v
  | 14 => .wrUnmappedE v
  | _ => .wrUnmappedF v

/-- The READ rows by address (R32, R60). -/
def decodeRead (a : Addr) : Instr :=
  match a.toNat with
  | 0 => .rdDimTarget
  | 1 => .rdMinDelay
  | 2 => .rdMaxDelay
  | 3 => .rdStatus
  | 4 => .rdPhaseCnt
  | 5 => .rdGuard
  | 6 => .rdCalCnt
  | 7 => .rdCalSum
  | 8 => .rdCalIdx
  | 9 => .rdForceState
  | 10 => .rdUnmappedA
  | 11 => .rdUnmappedB
  | 12 => .rdUnmappedC
  | 13 => .rdUnmappedD
  | 14 => .rdUnmappedE
  | _ => .rdUnmappedF

/-- Every 24-bit word is exactly one legal form or illegal (R63). -/
def decodeWord (w : OpWord) : Instr :=
  if isIllegalWord w then .illegal w
  else match (opField w).toNat with
    | 0 => if zcField w then .tick1 else .tick0
    | 1 => decodeWrite (addrField w) (dataField w)
    | 2 => decodeRead (addrField w)
    | _ => .rst

/-- Why a code is rejected: `calPhaseUnused v` names a CAL_PHASE value that no rule gives a meaning (6 and 7; R64, I8). -/
inductive DecodeError where
  | calPhaseUnused (v : BitVec 3)
  deriving DecidableEq, Repr

/-- The row a 3-bit CAL_PHASE value selects (R64), with the signals of the TICK. -/
def decodeCalPhase (p : BitVec 3) (z ev accept : Bool) : Except DecodeError Instr :=
  match p.toNat with
  | 0 => .ok (.calWaitLow1 z)
  | 1 => .ok (.calWaitHigh z)
  | 2 => .ok (.calWaitLow2 z)
  | 3 => .ok (.calWaitRef ev)
  | 4 => .ok (.calCollect ev)
  | 5 => .ok (.calDone accept)
  | _ => .error (.calPhaseUnused p)

/-- The row an 8-bit CTRL_STATE value selects (R65); the INVALID rows by their match and mask (R66). -/
def decodeCtrlState (v : Reg8) (accept : Bool) : Instr :=
  if v = 0x00 then .pcIdle accept
  else if v = 0x01 then .pcOffset
  else if v = 0x02 then .pcDelay
  else if v = 0x03 then .pcTrigger
  else if v &&& 0xFC = 0x04 then .pcInvalid04 (v.setWidth 2)
  else if v &&& 0xF8 = 0x08 then .pcInvalid08 (v.setWidth 3)
  else if v &&& 0xF0 = 0x10 then .pcInvalid10 (v.setWidth 4)
  else if v &&& 0xE0 = 0x20 then .pcInvalid20 (v.setWidth 5)
  else if v &&& 0xC0 = 0x40 then .pcInvalid40 (v.setWidth 6)
  else .pcInvalid80 (v.setWidth 7)

/-- What is decoded: an operation word, or a dispatch value with the signals of the TICK it is read in (R66; log 7). -/
inductive Code where
  | word (w : OpWord)
  | calPhase (p : BitVec 3) (z ev accept : Bool)
  | ctrlState (v : Reg8) (accept : Bool)
  deriving DecidableEq, Repr

/-- The decoder: total, and rejecting by name. -/
def decode : Code → Except DecodeError Instr
  | .word w => .ok (decodeWord w)
  | .calPhase p z ev accept => decodeCalPhase p z ev accept
  | .ctrlState v accept => .ok (decodeCtrlState v accept)

/-! ### Encoding -/

/-- A TICK word (R58). -/
def tickWord (z : Bool) : OpWord := 0#2 ++ 0#21 ++ BitVec.ofBool z

/-- A WRITE word (R59). -/
def writeWord (a : Addr) (v : Reg16) : OpWord := 1#2 ++ 0#2 ++ a ++ v

/-- A READ word (R60). -/
def readWord (a : Addr) : OpWord := 2#2 ++ 0#2 ++ a ++ 0#16

/-- The RESET word (R61). -/
def resetWord : OpWord := 3#2 ++ 0#22

/-- The code of an operation. A dispatch row's code carries the signals that are its operands; the others are 0. -/
def encode : Instr → Code
  | .tick0 => .word (tickWord false)
  | .tick1 => .word (tickWord true)
  | .wrDimTarget v => .word (writeWord 0x0 v)
  | .wrMinDelay v => .word (writeWord 0x1 v)
  | .wrMaxDelay v => .word (writeWord 0x2 v)
  | .wrStatus v => .word (writeWord 0x3 v)
  | .wrPhaseCnt v => .word (writeWord 0x4 v)
  | .wrGuard v => .word (writeWord 0x5 v)
  | .wrCalCnt v => .word (writeWord 0x6 v)
  | .wrCalSum v => .word (writeWord 0x7 v)
  | .wrCalIdx v => .word (writeWord 0x8 v)
  | .wrForceState v => .word (writeWord 0x9 v)
  | .wrUnmappedA v => .word (writeWord 0xA v)
  | .wrUnmappedB v => .word (writeWord 0xB v)
  | .wrUnmappedC v => .word (writeWord 0xC v)
  | .wrUnmappedD v => .word (writeWord 0xD v)
  | .wrUnmappedE v => .word (writeWord 0xE v)
  | .wrUnmappedF v => .word (writeWord 0xF v)
  | .rdDimTarget => .word (readWord 0x0)
  | .rdMinDelay => .word (readWord 0x1)
  | .rdMaxDelay => .word (readWord 0x2)
  | .rdStatus => .word (readWord 0x3)
  | .rdPhaseCnt => .word (readWord 0x4)
  | .rdGuard => .word (readWord 0x5)
  | .rdCalCnt => .word (readWord 0x6)
  | .rdCalSum => .word (readWord 0x7)
  | .rdCalIdx => .word (readWord 0x8)
  | .rdForceState => .word (readWord 0x9)
  | .rdUnmappedA => .word (readWord 0xA)
  | .rdUnmappedB => .word (readWord 0xB)
  | .rdUnmappedC => .word (readWord 0xC)
  | .rdUnmappedD => .word (readWord 0xD)
  | .rdUnmappedE => .word (readWord 0xE)
  | .rdUnmappedF => .word (readWord 0xF)
  | .rst => .word resetWord
  | .calWaitLow1 z => .calPhase 0 z false false
  | .calWaitHigh z => .calPhase 1 z false false
  | .calWaitLow2 z => .calPhase 2 z false false
  | .calWaitRef ev => .calPhase 3 false ev false
  | .calCollect ev => .calPhase 4 false ev false
  | .calDone accept => .calPhase 5 false false accept
  | .pcIdle accept => .ctrlState 0x00 accept
  | .pcOffset => .ctrlState 0x01 false
  | .pcDelay => .ctrlState 0x02 false
  | .pcTrigger => .ctrlState 0x03 false
  | .pcInvalid04 low => .ctrlState (1#6 ++ low) false
  | .pcInvalid08 low => .ctrlState (1#5 ++ low) false
  | .pcInvalid10 low => .ctrlState (1#4 ++ low) false
  | .pcInvalid20 low => .ctrlState (1#3 ++ low) false
  | .pcInvalid40 low => .ctrlState (1#2 ++ low) false
  | .pcInvalid80 low => .ctrlState (1#1 ++ low) false
  | .illegal w => .word w

/-! ### The word rows of the opcode table, as data (R66) -/

/-- One row of the formats TICK, WRITE, READ and RESET: a word belongs to it when `w &&& mask = pattern`. -/
structure WordRow where
  mnemonic : String
  pattern : OpWord
  mask : OpWord
  deriving DecidableEq, Repr

/-- Whether a word belongs to a row. -/
def WordRow.covers (r : WordRow) (w : OpWord) : Bool := w &&& r.mask == r.pattern

/-- The rows of formats TICK and RESET. -/
def tickResetRows : List WordRow :=
  [⟨"TICK_0", 0x000000, 0xFFFFFF⟩, ⟨"TICK_1", 0x000001, 0xFFFFFF⟩, ⟨"RST", 0xC00000, 0xFFFFFF⟩]

/-- The rows of format WRITE. -/
def writeRows : List WordRow :=
  [⟨"WR_DIM_TARGET__v", 0x400000, 0xFF0000⟩,
   ⟨"WR_MIN_DELAY__v", 0x410000, 0xFF0000⟩,
   ⟨"WR_MAX_DELAY__v", 0x420000, 0xFF0000⟩,
   ⟨"WR_STATUS__v", 0x430000, 0xFF0000⟩,
   ⟨"WR_PHASE_CNT__v", 0x440000, 0xFF0000⟩,
   ⟨"WR_GUARD__v", 0x450000, 0xFF0000⟩,
   ⟨"WR_CAL_CNT__v", 0x460000, 0xFF0000⟩,
   ⟨"WR_CAL_SUM__v", 0x470000, 0xFF0000⟩,
   ⟨"WR_CAL_IDX__v", 0x480000, 0xFF0000⟩,
   ⟨"WR_FORCE_STATE__v", 0x490000, 0xFF0000⟩,
   ⟨"WR_UNMAPPED_A__v", 0x4A0000, 0xFF0000⟩,
   ⟨"WR_UNMAPPED_B__v", 0x4B0000, 0xFF0000⟩,
   ⟨"WR_UNMAPPED_C__v", 0x4C0000, 0xFF0000⟩,
   ⟨"WR_UNMAPPED_D__v", 0x4D0000, 0xFF0000⟩,
   ⟨"WR_UNMAPPED_E__v", 0x4E0000, 0xFF0000⟩,
   ⟨"WR_UNMAPPED_F__v", 0x4F0000, 0xFF0000⟩]

/-- The rows of format READ. -/
def readRows : List WordRow :=
  [⟨"RD_DIM_TARGET", 0x800000, 0xFFFFFF⟩,
   ⟨"RD_MIN_DELAY", 0x810000, 0xFFFFFF⟩,
   ⟨"RD_MAX_DELAY", 0x820000, 0xFFFFFF⟩,
   ⟨"RD_STATUS", 0x830000, 0xFFFFFF⟩,
   ⟨"RD_PHASE_CNT", 0x840000, 0xFFFFFF⟩,
   ⟨"RD_GUARD", 0x850000, 0xFFFFFF⟩,
   ⟨"RD_CAL_CNT", 0x860000, 0xFFFFFF⟩,
   ⟨"RD_CAL_SUM", 0x870000, 0xFFFFFF⟩,
   ⟨"RD_CAL_IDX", 0x880000, 0xFFFFFF⟩,
   ⟨"RD_FORCE_STATE", 0x890000, 0xFFFFFF⟩,
   ⟨"RD_UNMAPPED_A", 0x8A0000, 0xFFFFFF⟩,
   ⟨"RD_UNMAPPED_B", 0x8B0000, 0xFFFFFF⟩,
   ⟨"RD_UNMAPPED_C", 0x8C0000, 0xFFFFFF⟩,
   ⟨"RD_UNMAPPED_D", 0x8D0000, 0xFFFFFF⟩,
   ⟨"RD_UNMAPPED_E", 0x8E0000, 0xFFFFFF⟩,
   ⟨"RD_UNMAPPED_F", 0x8F0000, 0xFFFFFF⟩]

/-- All rows of the word formats but ILLEGAL, which applies only to a word that no other row covers (R66). -/
def wordRows : List WordRow := tickResetRows ++ writeRows ++ readRows

/-! ### The host's question (log 9) -/

/-- The code that `nbits` bits with the number `w` stand for: 3 bits a CAL_PHASE value and 8 bits a CTRL_STATE value, read
in a TICK whose signals are all 0; otherwise a 24-bit operation word. -/
def tableCode (nbits w : Nat) : Option Code :=
  if nbits = 3 then some (.calPhase (BitVec.ofNat 3 w) false false false)
  else if nbits = 8 then some (.ctrlState (BitVec.ofNat 8 w) false)
  else if w < 0x1000000 then some (.word (BitVec.ofNat 24 w))
  else none

/-- The operation the decoder reads from a row's bits. -/
def decodeTableWord (nbits w : Nat) : Option Instr :=
  match tableCode nbits w with
  | some c => (decode c).toOption
  | none => none

end Sys2Proof
end

