-- ==== Sys2Proof/Machine/System.lean ====
section
/-!
DEFINITION. RESET (spec/70_reset_and_hazards.md R147) and the illegal words (spec/30_encoding.md R63).
-/

namespace Sys2Proof.Machine

/-- RST: every element at its reset value (R147). The configuration is no element (R30), and the words already issued are
the agents' (log 16); nothing is returned to the host (R132). -/
def resetStep (s : State) : State := (State.resetOf s.cfg).setOps s.ops

/-- What an illegal word returns: 0x0000 where its OP is READ, otherwise nothing (R63). -/
def illegalRdata (w : OpWord) : Option Reg16 := if isReadShaped w then some 0x0000 else none

/-- RST (R147). -/
def execRst (s : State) : Host.Outcome State Fault Refusal := complete s (resetStep s)

/-- ILLEGAL (R63): no element changes, and no tick is counted. -/
def execIllegal (w : OpWord) (s : State) : Host.Outcome State Fault Refusal :=
  complete s (s.setRdata (illegalRdata w))

end Sys2Proof.Machine
end

