-- ==== Sys2Proof/Machine/Tick.lean ====
section
/-!
DEFINITION. The TICK operation (spec/40_tick.md R69, R70), with the edge detector and the noise gate (spec/41_edge_noise.md).
-/

namespace Sys2Proof.Machine

/-- Sub-step 4, the every-tick updates: `ZC_PREV <- z` (R76) and `GUARD <- if accept then 0 else sat_inc16(GUARD)` (R78). -/
def edgeStep (z : Bool) (s : State) : State :=
  (s.setZcPrev z).setGuard (if accept z s then 0 else satInc16 s.guard)

/-- CalStep(z, ev), selected by CAL_PHASE (R64, R84). DONE has no calibration step. -/
def calStep (z ev : Bool) (s : State) : State :=
  match s.calPhase with
  | .waitLow1 => waitLow1Step z s
  | .waitHigh => waitHighStep z s
  | .waitLow2 => waitLow2Step z s
  | .waitRef => waitRefStep ev s
  | .collect => collectStep ev s
  | .done => s

/-- Sub-step 5, the mode dispatch (R70). -/
def modeDispatch (z ev acc : Bool) (s : State) : State :=
  if mode s then phaseStep acc s else calStep z ev s

/-- `TICK z` as a whole (R69): every signal is computed from the pre-tick state. A TICK returns nothing to the host. -/
def tick (z : Bool) (s : State) : State :=
  (modeDispatch z (calEvent z s) (accept z s) (edgeStep z s)).setRdata none

/-- TICK 0 (R69). -/
def execTick0 (s : State) : Host.Outcome State Fault Refusal := complete s (tick false s)

/-- TICK 1 (R69). -/
def execTick1 (s : State) : Host.Outcome State Fault Refusal := complete s (tick true s)

end Sys2Proof.Machine
end

