-- ==== Sys2Proof/Machine/Dispatch.lean ====
section
/-!
DEFINITION. One arm per operation (spec/opcode_table.json).
-/

namespace Sys2Proof.Machine

def exec (i : Instr) (s : State) : Host.Outcome State Fault Refusal :=
  match i with
  | .tick0 => Sys2Proof.Machine.execTick0 s
  | .tick1 => Sys2Proof.Machine.execTick1 s
  | .wrDimTarget v => Sys2Proof.Machine.execWrDimTarget v s
  | .wrMinDelay v => Sys2Proof.Machine.execWrMinDelay v s
  | .wrMaxDelay v => Sys2Proof.Machine.execWrMaxDelay v s
  | .wrStatus v => Sys2Proof.Machine.execWrStatus v s
  | .wrPhaseCnt v => Sys2Proof.Machine.execWrPhaseCnt v s
  | .wrGuard v => Sys2Proof.Machine.execWrGuard v s
  | .wrCalCnt v => Sys2Proof.Machine.execWrCalCnt v s
  | .wrCalSum v => Sys2Proof.Machine.execWrCalSum v s
  | .wrCalIdx v => Sys2Proof.Machine.execWrCalIdx v s
  | .wrForceState v => Sys2Proof.Machine.execWrForceState v s
  | .wrUnmappedA v => Sys2Proof.Machine.execWrUnmappedA v s
  | .wrUnmappedB v => Sys2Proof.Machine.execWrUnmappedB v s
  | .wrUnmappedC v => Sys2Proof.Machine.execWrUnmappedC v s
  | .wrUnmappedD v => Sys2Proof.Machine.execWrUnmappedD v s
  | .wrUnmappedE v => Sys2Proof.Machine.execWrUnmappedE v s
  | .wrUnmappedF v => Sys2Proof.Machine.execWrUnmappedF v s
  | .rdDimTarget => Sys2Proof.Machine.execRdDimTarget s
  | .rdMinDelay => Sys2Proof.Machine.execRdMinDelay s
  | .rdMaxDelay => Sys2Proof.Machine.execRdMaxDelay s
  | .rdStatus => Sys2Proof.Machine.execRdStatus s
  | .rdPhaseCnt => Sys2Proof.Machine.execRdPhaseCnt s
  | .rdGuard => Sys2Proof.Machine.execRdGuard s
  | .rdCalCnt => Sys2Proof.Machine.execRdCalCnt s
  | .rdCalSum => Sys2Proof.Machine.execRdCalSum s
  | .rdCalIdx => Sys2Proof.Machine.execRdCalIdx s
  | .rdForceState => Sys2Proof.Machine.execRdForceState s
  | .rdUnmappedA => Sys2Proof.Machine.execRdUnmappedA s
  | .rdUnmappedB => Sys2Proof.Machine.execRdUnmappedB s
  | .rdUnmappedC => Sys2Proof.Machine.execRdUnmappedC s
  | .rdUnmappedD => Sys2Proof.Machine.execRdUnmappedD s
  | .rdUnmappedE => Sys2Proof.Machine.execRdUnmappedE s
  | .rdUnmappedF => Sys2Proof.Machine.execRdUnmappedF s
  | .rst => Sys2Proof.Machine.execRst s
  | .calWaitLow1 z => Sys2Proof.Machine.execCalWaitLow1 z s
  | .calWaitHigh z => Sys2Proof.Machine.execCalWaitHigh z s
  | .calWaitLow2 z => Sys2Proof.Machine.execCalWaitLow2 z s
  | .calWaitRef ev => Sys2Proof.Machine.execCalWaitRef ev s
  | .calCollect ev => Sys2Proof.Machine.execCalCollect ev s
  | .calDone accept => Sys2Proof.Machine.execCalDone accept s
  | .pcIdle accept => Sys2Proof.Machine.execPcIdle accept s
  | .pcOffset => Sys2Proof.Machine.execPcOffset s
  | .pcDelay => Sys2Proof.Machine.execPcDelay s
  | .pcTrigger => Sys2Proof.Machine.execPcTrigger s
  | .pcInvalid04 low => Sys2Proof.Machine.execPcInvalid04 low s
  | .pcInvalid08 low => Sys2Proof.Machine.execPcInvalid08 low s
  | .pcInvalid10 low => Sys2Proof.Machine.execPcInvalid10 low s
  | .pcInvalid20 low => Sys2Proof.Machine.execPcInvalid20 low s
  | .pcInvalid40 low => Sys2Proof.Machine.execPcInvalid40 low s
  | .pcInvalid80 low => Sys2Proof.Machine.execPcInvalid80 low s
  | .illegal w => Sys2Proof.Machine.execIllegal w s

end Sys2Proof.Machine
end

