-- ==== Sys2Proof/Machine/Fetch.lean ====
section
/-!
DEFINITION. The stream of operations (spec/20_memory.md R48, R49; log 4): taking the next operation word, issuing one, and
placing any code so that the very next step runs it.
-/

namespace Sys2Proof.Machine

/-- The next operation word and the state without it, if one has been issued. -/
def takeOp (s : State) : Option (OpWord × State) :=
  match s.ops with
  | [] => none
  | w :: rest => some (w, s.setOps rest)

/-- The state with `w` issued as the very next operation. -/
def issueNext (s : State) (w : OpWord) : State := s.setOps (w :: s.ops)

/-- The state in which a CAL_PHASE value selects its row (R64). No value 6 or 7 is ever held (R17). -/
def withCalPhaseValue (s : State) (p : BitVec 3) : State :=
  match p.toNat with
  | 0 => s.setCalPhase .waitLow1
  | 1 => s.setCalPhase .waitHigh
  | 2 => s.setCalPhase .waitLow2
  | 3 => s.setCalPhase .waitRef
  | 4 => s.setCalPhase .collect
  | 5 => s.setCalPhase .done
  | _ => s

/-- The state whose very next step runs what `c` stands for: an operation word is issued next; a dispatch value is put
into the element that selects its row (R66), and a TICK 0, whose signals are all 0, is issued next (log 9). -/
def placeCode (s : State) (c : Code) : State :=
  match c with
  | .word w => issueNext s w
  | .calPhase p _ _ _ => issueNext (withCalPhaseValue s p) (tickWord false)
  | .ctrlState v _ => issueNext ((s.setCalPhase .done).setCtrlState v) (tickWord false)

end Sys2Proof.Machine
end

