-- ==== Sys2Proof/WellFormed.lean ====
section
/-!
DEFINITION. Well-formed operations: every operand has its field's width by its type, so the one check left is that ILLEGAL
holds a word that R63 calls illegal (spec/30_encoding.md). The check on a configuration is Config.WF (R7).
-/

namespace Sys2Proof

/-- ILLEGAL holds an illegal word (R63); every other operation is well-formed as it stands. -/
def Instr.wellFormed (i : Instr) : Bool :=
  match i with
  | .illegal w => isIllegalWord w
  | _ => true

end Sys2Proof
end

