-- ==== Sys2Proof/Machine/Step.lean ====
section
/-!
DEFINITION. One step: the next operation word of the stream is taken, decoded and executed (spec/20_memory.md R49). With no
word issued nothing happens (log 5).
-/

namespace Sys2Proof.Machine

/-- One step of the machine. -/
def step (s : State) : Host.Outcome State Fault Refusal :=
  match takeOp s with
  | none => .next s
  | some (w, s1) => exec (decodeWord w) s1

/-- `s` with the operation that `nbits` bits of number `w` stand for as what the very next step runs (log 4, log 9). -/
def State.withFetchWord (s : State) (nbits w : Nat) : State :=
  match tableCode nbits w with
  | some c => placeCode s c
  | none => s

end Sys2Proof.Machine
end

