-- ==== Sys2Proof/Machine/Run.lean ====
section
/-!
DEFINITION. Finite runs of operation words (spec/70_reset_and_hazards.md R151), counted in TICKs (spec/40_tick.md R72, R73), and
the classes of operations that the rules' preconditions name.
-/

namespace Sys2Proof.Machine

/-- The words of `ws` executed in order from `s`, stopping at the first refusal (R49, R151). -/
def runWords : List OpWord → State → Host.Outcome State Fault Refusal
  | [], s => .next s
  | w :: ws, s =>
    match exec (decodeWord w) s with
    | .next t => runWords ws t
    | .fault r => .fault r
    | .refused r => .refused r

/-- One of the two legal TICK words (R58). -/
def isTickWord (w : OpWord) : Bool := w == tickWord false || w == tickWord true

/-- How many TICKs a stream holds: host operations and illegal words are no ticks (R63, R72, R130). -/
def ticksIn (ws : List OpWord) : Nat := ws.countP isTickWord

/-- The operation is RST. -/
def isRst (i : Instr) : Bool :=
  match i with
  | .rst => true
  | _ => false

/-- The operation writes FORCE_STATE. -/
def isForce (i : Instr) : Bool :=
  match i with
  | .wrForceState _ => true
  | _ => false

/-- The operation writes DIM_TARGET. -/
def isDimWrite (i : Instr) : Bool :=
  match i with
  | .wrDimTarget _ => true
  | _ => false

/-- No RST and no FORCE_STATE write among the words (the precondition of R107 to R112). -/
def undisturbed (ws : List OpWord) : Bool := ws.all fun w => !isRst (decodeWord w) && !isForce (decodeWord w)

/-- No RST, no FORCE_STATE write and no DIM_TARGET write among the words: "D is constant" (R107). -/
def undisturbedConstantDim (ws : List OpWord) : Bool :=
  undisturbed ws && ws.all fun w => !isDimWrite (decodeWord w)

/-- No FORCE_STATE write among the words (the precondition of R36 to R38). -/
def unforced (ws : List OpWord) : Bool := ws.all fun w => !isForce (decodeWord w)

/-- How many of the words meet `p` in the state they are executed in. -/
def countDuring (p : OpWord → State → Bool) : List OpWord → State → Nat
  | [], _ => 0
  | w :: ws, s =>
    (if p w s then 1 else 0) +
      match exec (decodeWord w) s with
      | .next t => countDuring p ws t
      | _ => 0

/-- The word is a TICK with a rising edge (R75). -/
def risesAt (w : OpWord) (s : State) : Bool := isTickWord w && rising (zcField w) s

/-- The word is a TICK with an accepted edge (R77). -/
def acceptsAt (w : OpWord) (s : State) : Bool := isTickWord w && accept (zcField w) s

/-- `n` TICKs of level `z` (R68, TICKS). -/
def ticks (n : Nat) (z : Bool) : List OpWord := List.replicate n (tickWord z)

/-- `k` periods of a square input, `h` ticks high then `l` ticks low (R68, WAVE). -/
def wave (h l k : Nat) : List OpWord := (List.replicate k (ticks h true ++ ticks l false)).flatten

end Sys2Proof.Machine
end

