-- ==== Sys2Proof/Machine/Asm.lean ====
section
/-!
DEFINITION. The assembler (spec/30_encoding.md R67, R68): one operation or pseudo-instruction a line, register names (R32),
ranges that reject and never truncate, and the text form of a line (lexical conventions: log 17).
-/

namespace Sys2Proof.Machine

/-- A register operand: a name of R32, or a number. -/
inductive RegRef where
  | named (name : String)
  | number (n : Nat)
  deriving DecidableEq, Repr

/-- The lines of R67 and the pseudo-instructions of R68, with operands as written. -/
inductive AsmLine where
  | tick (z : Nat)
  | wr (reg : RegRef) (v : Nat)
  | rd (reg : RegRef)
  | rst
  | word (w : Nat)
  | ticks (n z : Nat)
  | wave (h l k : Nat)
  | setdim (v : Nat)
  | dimoff
  | force (v : Nat)
  deriving DecidableEq, Repr

/-- The register names of R67, at their addresses. -/
def registerNames : List (String × Addr) :=
  [("DIM_TARGET", 0), ("MIN_DELAY", 1), ("MAX_DELAY", 2), ("STATUS", 3), ("PHASE_CNT", 4), ("GUARD", 5),
   ("CAL_CNT", 6), ("CAL_SUM", 7), ("CAL_IDX", 8), ("FORCE_STATE", 9)]

/-- `addr(reg)`: a name's ADDR, or a number from 0 to 15 (R67). -/
def regAddr (r : RegRef) : Option Addr :=
  match r with
  | .named n => (registerNames.find? fun p => p.1 == n).map Prod.snd
  | .number n => if n < 16 then some (BitVec.ofNat 4 n) else none

/-- A level operand, 0 or 1 (R67). -/
def levelOf (z : Nat) : Option Bool :=
  match z with
  | 0 => some false
  | 1 => some true
  | _ => none

/-- A 16-bit operand, 0 to 0xFFFF (R67). -/
def dataOf (v : Nat) : Option Reg16 := if v ≤ 0xFFFF then some (BitVec.ofNat 16 v) else none

/-- `addr(reg) << 16`, in a 24-bit word (R67). -/
def shiftedAddr (a : Addr) : OpWord := a.setWidth 24 <<< (16 : Nat)

/-- `WR reg, v`: `0x400000 | (addr(reg) << 16) | v` (R67). -/
def assembleWr (r : RegRef) (v : Nat) : Option (List OpWord) :=
  match regAddr r, dataOf v with
  | some a, some d => some [0x400000#24 ||| shiftedAddr a ||| d.setWidth 24]
  | _, _ => none

/-- The words a line assembles to; an operand out of range is rejected (R67, R68). -/
def assemble (l : AsmLine) : Option (List OpWord) :=
  match l with
  | .tick z => (levelOf z).map fun b => [tickWord b]
  | .wr r v => assembleWr r v
  | .rd r => (regAddr r).map fun a => [0x800000#24 ||| shiftedAddr a]
  | .rst => some [0xC00000#24]
  | .word w => if w ≤ 0xFFFFFF then some [BitVec.ofNat 24 w] else none
  | .ticks n z => (levelOf z).map (ticks n)
  | .wave h l k => some (wave h l k)
  | .setdim v => assembleWr (.named "DIM_TARGET") v
  | .dimoff => assembleWr (.named "DIM_TARGET") 0xFFFF
  | .force v => if v ≤ 0xFF then assembleWr (.named "FORCE_STATE") v else none

/-! ### The text of a line (R67) -/

/-- Blanks that separate: space, tab and carriage return. -/
def isBlank (c : Char) : Bool := c == ' ' || c == '\t' || c == '\r'

/-- A text without the blanks at its ends. -/
def trimBlanks (cs : List Char) : List Char := ((cs.dropWhile isBlank).reverse.dropWhile isBlank).reverse

/-- A text cut at every `sep`. -/
def splitAtChar (sep : Char) : List Char → List (List Char)
  | [] => [[]]
  | c :: cs =>
    match splitAtChar sep cs with
    | [] => [[]]
    | p :: ps => if c == sep then [] :: p :: ps else (c :: p) :: ps

/-- The value of a digit in a base up to 16. -/
def digitValue (base : Nat) (c : Char) : Option Nat :=
  let n := c.toNat
  let v := if 48 ≤ n ∧ n ≤ 57 then n - 48 else if 65 ≤ n ∧ n ≤ 70 then n - 55 else if 97 ≤ n ∧ n ≤ 102 then n - 87 else 16
  if v < base then some v else none

/-- A number read from its digits, `acc` so far. -/
def digitsValue (base : Nat) : List Char → Nat → Option Nat
  | [], acc => some acc
  | c :: cs, acc =>
    match digitValue base c with
    | some v => digitsValue base cs (acc * base + v)
    | none => none

/-- A number: decimal, or hexadecimal with `0x` (R67). -/
def parseNumber (cs : List Char) : Option Nat :=
  match cs with
  | [] => none
  | '0' :: 'x' :: [] => none
  | '0' :: 'x' :: ds => digitsValue 16 ds 0
  | ds => digitsValue 10 ds 0

/-- A register operand: a number, or else a name (R67). -/
def parseReg (cs : List Char) : RegRef :=
  match parseNumber cs with
  | some n => .number n
  | none => .named (String.ofList cs)

/-- A line from its mnemonic and its operands. -/
def lineOf (mnemonic : String) (operands : List (List Char)) : Option AsmLine :=
  match operands with
  | [] => if mnemonic == "RST" then some .rst else if mnemonic == "DIMOFF" then some .dimoff else none
  | [a] =>
    if mnemonic == "RD" then some (.rd (parseReg a))
    else match parseNumber a with
      | some n =>
        if mnemonic == "TICK" then some (.tick n)
        else if mnemonic == ".word" then some (.word n)
        else if mnemonic == "SETDIM" then some (.setdim n)
        else if mnemonic == "FORCE" then some (.force n)
        else none
      | none => none
  | [a, b] =>
    if mnemonic == "WR" then (parseNumber b).map (.wr (parseReg a))
    else if mnemonic == "TICKS" then
      match parseNumber a, parseNumber b with
      | some n, some z => some (.ticks n z)
      | _, _ => none
    else none
  | [a, b, c] =>
    if mnemonic == "WAVE" then
      match parseNumber a, parseNumber b, parseNumber c with
      | some h, some l, some k => some (.wave h l k)
      | _, _, _ => none
    else none
  | _ => none

/-- The words of one line of text: a comment runs from `;`, and a line with nothing else gives no word. -/
def assembleLine (line : List Char) : Option (List OpWord) :=
  let code := trimBlanks (line.takeWhile fun c => c != ';')
  let mnemonic := code.takeWhile fun c => !isBlank c
  let rest := trimBlanks (code.drop mnemonic.length)
  let operands := if rest.isEmpty then [] else (splitAtChar ',' rest).map trimBlanks
  if code.isEmpty then some []
  else match lineOf (String.ofList mnemonic) operands with
    | some l => assemble l
    | none => none

/-- The words of lines of text, rejected whole if a line is. -/
def assembleLines : List (List Char) → Option (List OpWord)
  | [] => some []
  | l :: ls =>
    match assembleLine l, assembleLines ls with
    | some ws, some rest => some (ws ++ rest)
    | _, _ => none

/-- The words of a text, one operation a line (R67). -/
def assembleText (text : String) : Option (List OpWord) := assembleLines (splitAtChar '\n' text.toList)

end Sys2Proof.Machine
end

