-- ==== Sys2Proof/Safety.lean ====
section
/-!
DEFINITION. What the claims about the block are stated in: the invariants of spec/10_state.md section 5, the elements two states
share, the host's duty, and the derived lengths of spec/43_phase_control.md section 4.
-/

namespace Sys2Proof.Machine

/-- `t` has every state element of `s` (R15 to R28), whatever was issued or returned. -/
abbrev sameElements (s t : State) : Prop :=
  t.zcPrev = s.zcPrev ∧ t.guard = s.guard ∧ t.calPhase = s.calPhase ∧ t.calCnt = s.calCnt ∧ t.calSum = s.calSum ∧
  t.calIdx = s.calIdx ∧ t.minDelay = s.minDelay ∧ t.maxDelay = s.maxDelay ∧ t.ctrlState = s.ctrlState ∧
  t.phaseCnt = s.phaseCnt ∧ t.gate = s.gate ∧ t.heartbeat = s.heartbeat ∧ t.dimTarget = s.dimTarget

/-- `TICK z` as an operation (R58). -/
def tickInstr (z : Bool) : Instr := if z then .tick1 else .tick0

/-- What calibration keeps in every run (R39, R40, R94, and R21's "keeps the value CAL_N after DONE"): while collecting,
fewer than CAL_N samples, each in the window, make up the sum; when done, the published bounds are those of the average. -/
abbrev CalInv (s : State) : Prop :=
  s.cfg.WF ∧
  (s.calPhase = .collect →
    s.calIdx.toNat < s.cfg.calN ∧ s.calIdx.toNat * s.cfg.calWinLo ≤ s.calSum.toNat ∧
    s.calSum.toNat ≤ s.calIdx.toNat * s.cfg.calWinHi) ∧
  (s.calPhase = .done →
    s.calIdx.toNat = s.cfg.calN ∧ s.cfg.calN * s.cfg.calWinLo ≤ s.calSum.toNat ∧
    s.calSum.toNat ≤ s.cfg.calN * s.cfg.calWinHi ∧
    (s.maxDelay.toNat : Int) = maxDelayOf s.cfg (avgPeriod s.cfg s.calSum.toNat) ∧
    (s.minDelay.toNat : Int) = minDelayOf s.cfg (avgPeriod s.cfg s.calSum.toNat))

/-- What phase control keeps in every run without a FORCE_STATE write (R36, R37, R38). -/
abbrev UnforcedInv (s : State) : Prop :=
  s.cfg.WF ∧
  (s.calPhase ≠ .done → s.ctrlState = 0 ∧ s.phaseCnt = 0 ∧ s.gate = false ∧ s.heartbeat = false) ∧
  (s.gate = true ↔ s.ctrlState = 3) ∧ s.ctrlState.toNat ≤ 3 ∧
  s.phaseCnt.toNat ≤ max (max (s.cfg.zcOffset - 1) s.cfg.safetyTimeout) s.cfg.triggerPulseWidth ∧
  (s.ctrlState = 1 → s.phaseCnt.toNat < s.cfg.zcOffset) ∧
  (s.ctrlState = 2 → s.phaseCnt.toNat < s.cfg.safetyTimeout) ∧
  (s.ctrlState = 3 → s.phaseCnt.toNat < s.cfg.triggerPulseWidth)

/-- With CAL_EDGE_SOURCE = ACCEPTED, GUARD and CAL_CNT count from the same edge while collecting (R96; 95_test_vectors.md
section 2.3). -/
abbrev GuardTracksCalCnt (s : State) : Prop :=
  s.cfg.WF ∧ (s.cfg.calEdgeSource = .accepted → s.calPhase = .collect → s.guard = s.calCnt)

/-- The host's duty on DIM_TARGET (R131): in RUN mode, a value within the calibrated bounds or an OFF value. -/
abbrev dutifulDim (s : State) (d : Reg16) : Prop :=
  s.calPhase = .done ∧
  ((s.minDelay.toNat ≤ d.toNat ∧ d.toNat ≤ s.maxDelay.toNat) ∨ s.cfg.safetyTimeout ≤ d.toNat)

/-- Ticks from the accepted edge to the fire, `ZC_OFFSET + max(D, 1)` (R107). -/
def fireTicks (c : Config) (d : Nat) : Nat := c.zcOffset + max d 1

/-- Ticks from the accepted edge to the timeout, `ZC_OFFSET + SAFETY_TIMEOUT` (R109). -/
def timeoutTicks (c : Config) : Nat := c.zcOffset + c.safetyTimeout

/-- The cycle length L (R110). -/
def cycleTicks (c : Config) (d : Nat) : Nat :=
  if armed c d then fireTicks c d + c.triggerPulseWidth else timeoutTicks c

end Sys2Proof.Machine
end

