-- ==== Sys2Proof/Certificates/Slice0/Obligations.lean ====
section
/-!
DEFINITION. The statements for the provers. "R" numbers are the rules of spec/; "log" numbers are notes/assumptions/.
-/

open Sys2Proof Sys2Proof.Machine

/-! ### The step and the stream -/

/-- A step runs the decoded operation: with `w` next in the stream, a step is exec of the operation `w` decodes to, on the
state without that word (R49; that operations arrive as State.ops is the model's choice, log 4); with no word issued a step
changes nothing (the model's choice, log 5). -/
def Obligations.StepRunsTheNextWord : Prop :=
  (∀ (s : State) (w : OpWord) (rest : List OpWord) (i : Instr),
    s.ops = w :: rest → decode (.word w) = .ok i → i.wellFormed = true → step s = exec i (s.setOps rest)) ∧
  (∀ s : State, s.ops = [] → step s = .next s)

/-- Every 24-bit word, legal or illegal, completes in every state of a well-formed configuration: the block raises no
exception and has no stuck state (R133, R135). With an ill-formed Config every word is refused, so no operation runs (R7, R10). -/
def Obligations.EveryWordCompletesUnlessConfigIsIllFormed : Prop :=
  ∀ (s : State) (w : OpWord) (rest : List OpWord), s.ops = w :: rest →
    (s.cfg.WF → ∃ t, step s = .next t) ∧ (¬ s.cfg.WF → step s = .refused .illFormedConfig)

/-- Steps of the machine over a stream are the runs that the statements below speak of: k steps over a stream of k words
followed by `rest` leave what running the words leaves, with `rest` still to take (log 4). -/
def Obligations.StepsOverAStreamRunItsWords : Prop :=
  ∀ (ws rest : List OpWord) (s : State),
    Host.Core.run Sys2Proof.core ws.length (s.setOps (ws ++ rest)) = runWords ws (s.setOps rest)

/-! ### Encoding -/

/-- Decode and encode agree: every well-formed operation, with every operand, is what its code decodes to. -/
def Obligations.DecodeOfEncodeIsTheOperation : Prop :=
  ∀ i : Instr, i.wellFormed = true → decode (encode i) = .ok i

/-- Every 24-bit word decodes to one well-formed operation whose code is that word. -/
def Obligations.EncodeOfDecodedWordIsTheWord : Prop :=
  ∀ w : OpWord, encode (decodeWord w) = .word w ∧ (decodeWord w).wellFormed = true

/-- The decoder is the opcode table: the rows that cover a word are exactly the row of the operation it decodes to, and none
for an illegal word (R66). -/
def Obligations.TableRowsAreTheDecoder : Prop :=
  ∀ w : OpWord,
    (wordRows.filter fun r => r.covers w).map WordRow.mnemonic =
      if isIllegalWord w then [] else [(decodeWord w).mnemonic]

/-- Words of 95_test_vectors.md section 2.1 decode as that table says. -/
def Obligations.SpecWordsDecodeAsTheSpecSays : Prop :=
  decodeWord 0x000000 = .tick0 ∧ decodeWord 0x000001 = .tick1 ∧ decodeWord 0x400064 = .wrDimTarget 100 ∧
  decodeWord 0x420000 = .wrMaxDelay 0 ∧ decodeWord 0x490080 = .wrForceState 0x80 ∧
  decodeWord 0x4F1234 = .wrUnmappedF 0x1234 ∧ decodeWord 0x800000 = .rdDimTarget ∧
  decodeWord 0x830000 = .rdStatus ∧ decodeWord 0x8F0000 = .rdUnmappedF ∧ decodeWord 0xC00000 = .rst ∧
  decodeWord 0x000002 = .illegal 0x000002 ∧ decodeWord 0x500064 = .illegal 0x500064 ∧
  decodeWord 0x830001 = .illegal 0x830001 ∧ decodeWord 0xC00001 = .illegal 0xC00001

/-- The dispatch values: CAL_PHASE 0 to 5 select their rows and 6 and 7 none; CTRL_STATE 0 to 3 select theirs and 4 to 255 an
INVALID row, whose code is the value itself (R64, R65, R66). -/
def Obligations.DispatchValuesSelectTheirRows : Prop :=
  (∀ z ev acc : Bool,
    decodeCalPhase 0 z ev acc = .ok (.calWaitLow1 z) ∧ decodeCalPhase 1 z ev acc = .ok (.calWaitHigh z) ∧
    decodeCalPhase 2 z ev acc = .ok (.calWaitLow2 z) ∧ decodeCalPhase 3 z ev acc = .ok (.calWaitRef ev) ∧
    decodeCalPhase 4 z ev acc = .ok (.calCollect ev) ∧ decodeCalPhase 5 z ev acc = .ok (.calDone acc) ∧
    decodeCalPhase 6 z ev acc = .error (.calPhaseUnused 6) ∧ decodeCalPhase 7 z ev acc = .error (.calPhaseUnused 7)) ∧
  (∀ acc : Bool,
    decodeCtrlState 0 acc = .pcIdle acc ∧ decodeCtrlState 1 acc = .pcOffset ∧
    decodeCtrlState 2 acc = .pcDelay ∧ decodeCtrlState 3 acc = .pcTrigger) ∧
  (∀ (v : Reg8) (acc : Bool), 4 ≤ v.toNat →
    encode (decodeCtrlState v acc) = .ctrlState v false ∧
    (decodeCtrlState v acc).mnemonic ∈
      ["PC.INVALID.04", "PC.INVALID.08", "PC.INVALID.10", "PC.INVALID.20", "PC.INVALID.40", "PC.INVALID.80"])

/-! ### Primitives and the register map -/

/-- The primitives of R10 on every value: sat_inc16, inc16, clamp. -/
def Obligations.PrimitivesAreThoseOfR10 : Prop :=
  (∀ v : Reg16, (satInc16 v).toNat = if v.toNat < 0xFFFF then v.toNat + 1 else 0xFFFF) ∧
  (∀ v : Reg16, (inc16 v).toNat = (v.toNat + 1) % 0x10000) ∧
  (∀ x lo hi : Int, clamp x lo hi = if x < lo then lo else if x > hi then hi else x)

/-- The STATUS word holds its fields at their bits (R33), and the output lines are its bits GATE, HEARTBEAT and MODE (R31). -/
def Obligations.StatusHoldsItsFields : Prop :=
  ∀ s : State,
    (statusWord s).extractLsb' 8 8 = s.ctrlState ∧ (statusWord s).getLsbD 7 = false ∧
    (statusWord s).getLsbD 6 = s.zcPrev ∧ (statusWord s).getLsbD 5 = s.heartbeat ∧
    (statusWord s).getLsbD 4 = s.gate ∧ (statusWord s).extractLsb' 1 3 = s.calPhase.code ∧
    ((statusWord s).getLsbD 0 = true ↔ s.calPhase = .done) ∧
    gateOut s = (statusWord s).getLsbD 4 ∧ heartbeatOut s = (statusWord s).getLsbD 5 ∧
    calDoneOut s = (statusWord s).getLsbD 0

/-! ### TICK -/

/-- Every TICK completes, stores its sample in ZC_PREV, and clears GUARD on an accepted edge or else counts it up to 0xFFFF, in
both modes (R75 to R78); it returns nothing to the host and leaves DIM_TARGET as it is (R28, R69). Constructors tick0 and tick1. -/
def Obligations.TickUpdatesZcPrevAndGuard : Prop :=
  ∀ (s : State) (z : Bool), s.cfg.WF →
    ∃ t, exec (tickInstr z) s = .next t ∧ t.zcPrev = z ∧
      t.guard.toNat =
        (if z = true ∧ s.zcPrev = false ∧ s.cfg.minZcPeriod < s.guard.toNat then 0
         else if s.guard.toNat < 0xFFFF then s.guard.toNat + 1 else 0xFFFF) ∧
      t.dimTarget = s.dimTarget ∧ t.rdata = none ∧ t.cfg = s.cfg ∧ t.ops = s.ops

/-- A TICK is the every-tick updates followed by the one row that the pre-tick state selects: a CAL_PHASE row in CAL mode, with
`z`, `ev` and `accept` of the pre-tick state, or else a CTRL_STATE row (R66, R69, R70). -/
def Obligations.TickRunsTheRowItsStateSelects : Prop :=
  ∀ (s u : State) (z : Bool) (i : Instr), s.cfg.WF →
    u = ((s.setZcPrev z).setGuard (if accept z s then 0 else satInc16 s.guard)).setRdata none →
    (s.calPhase ≠ .done → decodeCalPhase s.calPhase.code z (calEvent z s) (accept z s) = .ok i) →
    (s.calPhase = .done → i = decodeCtrlState s.ctrlState (accept z s)) →
    exec (tickInstr z) s = exec i u

/-- A CAL-mode TICK changes no element of phase control, and a RUN-mode TICK none of calibration (R70). -/
def Obligations.TickRunsOneMachineOnly : Prop :=
  ∀ (s t : State) (z : Bool), exec (tickInstr z) s = .next t →
    (s.calPhase ≠ .done →
      t.ctrlState = s.ctrlState ∧ t.phaseCnt = s.phaseCnt ∧ t.gate = s.gate ∧ t.heartbeat = s.heartbeat) ∧
    (s.calPhase = .done →
      t.calPhase = s.calPhase ∧ t.calCnt = s.calCnt ∧ t.calSum = s.calSum ∧ t.calIdx = s.calIdx ∧
      t.minDelay = s.minDelay ∧ t.maxDelay = s.maxDelay)

/-! ### Calibration rows -/

/-- WAIT_LOW1, WAIT_HIGH and WAIT_LOW2 count CAL_CNT and go on at the level they wait for (R85, R86, R87); nothing else changes.
Constructors calWaitLow1, calWaitHigh, calWaitLow2. -/
def Obligations.WaitRowsFollowTheRawLevel : Prop :=
  ∀ (s : State) (z : Bool), s.cfg.WF →
    (s.calPhase = .waitLow1 → exec (.calWaitLow1 z) s =
      .next { s with calCnt := satInc16 s.calCnt, calPhase := if z then .waitLow1 else .waitHigh }) ∧
    (s.calPhase = .waitHigh → exec (.calWaitHigh z) s =
      .next { s with calCnt := satInc16 s.calCnt, calPhase := if z then .waitLow2 else .waitHigh }) ∧
    (s.calPhase = .waitLow2 → exec (.calWaitLow2 z) s =
      .next { s with calCnt := satInc16 s.calCnt, calPhase := if z then .waitLow2 else .waitRef })

/-- WAIT_REF takes the reference edge or counts (R88); nothing else changes. Constructor calWaitRef. -/
def Obligations.WaitRefTakesTheReferenceEdge : Prop :=
  ∀ s : State, s.cfg.WF → s.calPhase = .waitRef →
    exec (.calWaitRef true) s = .next { s with calCnt := 0, calSum := 0, calIdx := 0, calPhase := .collect } ∧
    exec (.calWaitRef false) s = .next { s with calCnt := satInc16 s.calCnt }

/-- COLLECT on every state: without an edge it counts; an edge outside the window only restarts CAL_CNT; a valid sample is added,
counted, and the last one publishes the bounds of the average (R89 to R93). The sum and the count are stated where they fit
their elements: past them their value is free (log 11). Constructor calCollect. -/
def Obligations.CollectMeasuresAndPublishes : Prop :=
  ∀ (s : State) (sample : Nat), s.cfg.WF → s.calPhase = .collect → sample = (satInc16 s.calCnt).toNat →
    exec (.calCollect false) s = .next { s with calCnt := satInc16 s.calCnt } ∧
    (¬ (s.cfg.calWinLo ≤ sample ∧ sample ≤ s.cfg.calWinHi) →
      exec (.calCollect true) s = .next { s with calCnt := 0 }) ∧
    (s.cfg.calWinLo ≤ sample ∧ sample ≤ s.cfg.calWinHi →
      ∃ t, exec (.calCollect true) s = .next t ∧
        t = { s with calCnt := 0, calSum := t.calSum, calIdx := t.calIdx, calPhase := t.calPhase,
                     minDelay := t.minDelay, maxDelay := t.maxDelay } ∧
        (s.calSum.toNat + sample ≤ 0xFFFF → t.calSum.toNat = s.calSum.toNat + sample) ∧
        (s.calIdx.toNat + 1 ≤ 0xFF → t.calIdx.toNat = s.calIdx.toNat + 1) ∧
        (s.calIdx.toNat + 1 ≠ s.cfg.calN →
          t.calPhase = .collect ∧ t.minDelay = s.minDelay ∧ t.maxDelay = s.maxDelay) ∧
        (s.calIdx.toNat + 1 = s.cfg.calN →
          t.calPhase = .done ∧
          (t.maxDelay.toNat : Int) =
            clamp ((((s.calSum.toNat + sample) / s.cfg.calN : Nat) : Int) - s.cfg.margin) s.cfg.maxMin s.cfg.maxMax ∧
          (t.minDelay.toNat : Int) =
            clamp ((((s.calSum.toNat + sample) / s.cfg.calN * s.cfg.minBase / s.cfg.nominalPeriod : Nat) : Int) - 1)
              s.cfg.minMin s.cfg.minMax))

/-- CAL.DONE goes on to the CTRL_STATE row of the state and leaves what that row leaves (R64, R70). Constructor calDone. -/
def Obligations.DoneGoesOnToTheCtrlStateRow : Prop :=
  ∀ (s : State) (acc : Bool), s.cfg.WF → s.calPhase = .done →
    ∃ t, exec (.calDone acc) s = .next t ∧ exec (decodeCtrlState s.ctrlState acc) s = .next t

/-! ### Phase control rows -/

/-- IDLE takes an accepted edge, and otherwise changes nothing (R100). Constructor pcIdle. -/
def Obligations.IdleTakesAnAcceptedEdge : Prop :=
  ∀ s : State, s.cfg.WF → s.calPhase = .done → s.ctrlState = 0x00 →
    exec (.pcIdle false) s = .next s ∧
    exec (.pcIdle true) s = .next { s with phaseCnt := 0, heartbeat := !s.heartbeat, ctrlState := 0x01 }

/-- OFFSET counts up to ZC_OFFSET and then enters DELAY with PHASE_CNT 0 (R101). Constructor pcOffset. -/
def Obligations.OffsetCountsToZcOffset : Prop :=
  ∀ s : State, s.cfg.WF → s.calPhase = .done → s.ctrlState = 0x01 →
    exec .pcOffset s =
      .next (if s.cfg.zcOffset ≤ (s.phaseCnt.toNat + 1) % 0x10000 then { s with phaseCnt := 0, ctrlState := 0x02 }
             else { s with phaseCnt := inc16 s.phaseCnt })

/-- DELAY fires when the count reaches an armed DIM_TARGET, else times out at SAFETY_TIMEOUT, else counts (R102): the fire test
comes first. Constructor pcDelay. -/
def Obligations.DelayFiresOrTimesOut : Prop :=
  ∀ (s : State) (c : Nat) (fires : Prop), s.cfg.WF → s.calPhase = .done → s.ctrlState = 0x02 →
    c = (s.phaseCnt.toNat + 1) % 0x10000 →
    (fires ↔ s.dimTarget.toNat ≤ c ∧
      (s.dimTarget.toNat < s.cfg.safetyTimeout ∨
        s.cfg.delayEqFires = true ∧ s.dimTarget.toNat = s.cfg.safetyTimeout)) →
    (fires → exec .pcDelay s = .next { s with gate := true, phaseCnt := 0, ctrlState := 0x03 }) ∧
    (¬ fires → s.cfg.safetyTimeout ≤ c →
      exec .pcDelay s = .next { s with gate := false, phaseCnt := inc16 s.phaseCnt, ctrlState := 0x00 }) ∧
    (¬ fires → c < s.cfg.safetyTimeout → exec .pcDelay s = .next { s with phaseCnt := inc16 s.phaseCnt })

/-- TRIGGER counts, and at TRIGGER_PULSE_WIDTH clears GATE and returns to IDLE (R103). Constructor pcTrigger. -/
def Obligations.TriggerHoldsThePulse : Prop :=
  ∀ s : State, s.cfg.WF → s.calPhase = .done → s.ctrlState = 0x03 →
    exec .pcTrigger s =
      .next (if s.cfg.triggerPulseWidth ≤ (s.phaseCnt.toNat + 1) % 0x10000
             then { s with phaseCnt := inc16 s.phaseCnt, gate := false, ctrlState := 0x00 }
             else { s with phaseCnt := inc16 s.phaseCnt })

/-- Every invalid CTRL_STATE heals: GATE 0, IDLE, nothing else (R104). Constructors pcInvalid04, pcInvalid08, pcInvalid10,
pcInvalid20, pcInvalid40, pcInvalid80. -/
def Obligations.InvalidStatesHeal : Prop :=
  ∀ s : State, s.cfg.WF → s.calPhase = .done →
    (∀ low : BitVec 2, s.ctrlState = 1#6 ++ low → exec (.pcInvalid04 low) s = .next { s with gate := false, ctrlState := 0 }) ∧
    (∀ low : BitVec 3, s.ctrlState = 1#5 ++ low → exec (.pcInvalid08 low) s = .next { s with gate := false, ctrlState := 0 }) ∧
    (∀ low : BitVec 4, s.ctrlState = 1#4 ++ low → exec (.pcInvalid10 low) s = .next { s with gate := false, ctrlState := 0 }) ∧
    (∀ low : BitVec 5, s.ctrlState = 1#3 ++ low → exec (.pcInvalid20 low) s = .next { s with gate := false, ctrlState := 0 }) ∧
    (∀ low : BitVec 6, s.ctrlState = 1#2 ++ low → exec (.pcInvalid40 low) s = .next { s with gate := false, ctrlState := 0 }) ∧
    (∀ low : BitVec 7, s.ctrlState = 1#1 ++ low → exec (.pcInvalid80 low) s = .next { s with gate := false, ctrlState := 0 })

/-- A dispatch row handed to exec in a state that does not select it is refused by name: the model's choice (log 8; R66 says
which values a row matches, no rule says what a row does elsewhere). -/
def Obligations.UnselectedRowsAreRefused : Prop :=
  ∀ (s : State) (i : Instr),
    (i.format = .calPhase → (∀ z ev acc, encode i ≠ .calPhase s.calPhase.code z ev acc) →
      exec i s = .refused .rowNotSelected) ∧
    (i.format = .ctrlState → (s.calPhase ≠ .done ∨ ∀ acc, encode i ≠ .ctrlState s.ctrlState acc) →
      exec i s = .refused .rowNotSelected)

/-- An accepted edge outside IDLE has no effect on phase control: the rows ignore it, and a TICK that sees it leaves what a TICK
on an input that was already high leaves, but for GUARD, which the noise gate resets to 0 (R105). -/
def Obligations.EdgesOutsideIdleAreLost : Prop :=
  ∀ s : State, s.cfg.WF → s.calPhase = .done → s.ctrlState ≠ 0x00 →
    (∃ t, exec (.calDone true) s = .next t ∧ exec (.calDone false) s = .next t ∧ t.heartbeat = s.heartbeat) ∧
    (s.zcPrev = false → s.cfg.minZcPeriod < s.guard.toNat →
      ∃ t, exec .tick1 s = .next t ∧ t.guard = 0 ∧ t.heartbeat = s.heartbeat ∧
        exec .tick1 { s with zcPrev := true } = .next { t with guard := satInc16 s.guard })

/-! ### Host operations -/

/-- WR DIM_TARGET stores DATA as it is, and changes nothing else (R114). Constructor wrDimTarget. -/
def Obligations.WriteDimTargetStoresIt : Prop :=
  ∀ (s : State) (v : Reg16), s.cfg.WF → exec (.wrDimTarget v) s = .next { s with dimTarget := v, rdata := none }

/-- WR FORCE_STATE puts DATA[7:0] into CTRL_STATE, and changes nothing else (R34, R115). Constructor wrForceState. -/
def Obligations.WriteForceStateSetsCtrlState : Prop :=
  ∀ (s : State) (v : Reg16), s.cfg.WF →
    exec (.wrForceState v) s = .next { s with ctrlState := v.extractLsb' 0 8, rdata := none }

/-- A WRITE to a read-only or unmapped address changes nothing (R116, R117). Constructors wrMinDelay, wrMaxDelay, wrStatus,
wrPhaseCnt, wrGuard, wrCalCnt, wrCalSum, wrCalIdx, wrUnmappedA, wrUnmappedB, wrUnmappedC, wrUnmappedD, wrUnmappedE, wrUnmappedF. -/
def Obligations.OtherWritesAreIgnored : Prop :=
  ∀ (s : State) (v : Reg16) (i : Instr), s.cfg.WF →
    i ∈ [Instr.wrMinDelay v, .wrMaxDelay v, .wrStatus v, .wrPhaseCnt v, .wrGuard v, .wrCalCnt v, .wrCalSum v, .wrCalIdx v,
      .wrUnmappedA v, .wrUnmappedB v, .wrUnmappedC v, .wrUnmappedD v, .wrUnmappedE v, .wrUnmappedF v] →
    exec i s = .next { s with rdata := none }

/-- Every READ returns its register and changes no element (R118 to R129). Constructors rdDimTarget, rdMinDelay, rdMaxDelay,
rdStatus, rdPhaseCnt, rdGuard, rdCalCnt, rdCalSum, rdCalIdx, rdForceState, rdUnmappedA, rdUnmappedB, rdUnmappedC, rdUnmappedD,
rdUnmappedE, rdUnmappedF. -/
def Obligations.ReadsReturnTheirRegisters : Prop :=
  ∀ s : State, s.cfg.WF →
    exec .rdDimTarget s = .next { s with rdata := some s.dimTarget } ∧
    exec .rdMinDelay s = .next { s with rdata := some s.minDelay } ∧
    exec .rdMaxDelay s = .next { s with rdata := some s.maxDelay } ∧
    exec .rdStatus s = .next { s with rdata := some (statusWord s) } ∧
    exec .rdPhaseCnt s = .next { s with rdata := some s.phaseCnt } ∧
    exec .rdGuard s = .next { s with rdata := some s.guard } ∧
    exec .rdCalCnt s = .next { s with rdata := some s.calCnt } ∧
    exec .rdCalSum s = .next { s with rdata := some s.calSum } ∧
    exec .rdCalIdx s = .next { s with rdata := some (BitVec.ofNat 16 s.calIdx.toNat) } ∧
    exec .rdForceState s = .next { s with rdata := some 0 } ∧
    exec .rdUnmappedA s = .next { s with rdata := some 0 } ∧ exec .rdUnmappedB s = .next { s with rdata := some 0 } ∧
    exec .rdUnmappedC s = .next { s with rdata := some 0 } ∧ exec .rdUnmappedD s = .next { s with rdata := some 0 } ∧
    exec .rdUnmappedE s = .next { s with rdata := some 0 } ∧ exec .rdUnmappedF s = .next { s with rdata := some 0 }

/-- RST gives every element its reset value (R147), leaves the configuration (R30) and returns nothing to the host (R132). That
the words already issued stay is the model's choice (log 16). Constructor rst. -/
def Obligations.RstResetsEveryElement : Prop :=
  ∀ s : State, s.cfg.WF →
    exec .rst s = .next
      { cfg := s.cfg, ops := s.ops, rdata := none, zcPrev := s.cfg.zcIdleLevel, guard := 0, calPhase := .waitLow1,
        calCnt := 0, calSum := 0, calIdx := 0, minDelay := 0, maxDelay := 0, ctrlState := 0x00, phaseCnt := 0,
        gate := false, heartbeat := false, dimTarget := 0xFFFF }

/-- A word is illegal exactly when a reserved bit of its format is 1; an illegal word changes no element, and returns 0x0000
if its OP is READ (R63). Constructor illegal. -/
def Obligations.IllegalWordsHaveNoEffect : Prop :=
  ∀ (s : State) (w : OpWord), s.cfg.WF →
    (decodeWord w = .illegal w ↔
      (w.extractLsb' 22 2 = 0 ∧ w.extractLsb' 1 21 ≠ 0) ∨ (w.extractLsb' 22 2 = 1 ∧ w.extractLsb' 20 2 ≠ 0) ∨
      (w.extractLsb' 22 2 = 2 ∧ (w.extractLsb' 20 2 ≠ 0 ∨ w.extractLsb' 0 16 ≠ 0)) ∨
      (w.extractLsb' 22 2 = 3 ∧ w.extractLsb' 0 22 ≠ 0)) ∧
    exec (.illegal w) s = .next { s with rdata := if w.extractLsb' 22 2 = 2 then some 0x0000 else none }

/-- The state after reset or power-on of an instance with configuration `c`, and STATUS there (R147, R148, R33). That
State.reset is the instance RC is the model's choice (log 3). -/
def Obligations.ResetStateHoldsTheResetValues : Prop :=
  State.reset = State.resetOf Config.rc ∧ statusWord State.reset = 0x0040 ∧
  ∀ c : Config,
    (State.resetOf c).zcPrev = c.zcIdleLevel ∧ (State.resetOf c).guard = 0 ∧ (State.resetOf c).calPhase = .waitLow1 ∧
    (State.resetOf c).calCnt = 0 ∧ (State.resetOf c).calSum = 0 ∧ (State.resetOf c).calIdx = 0 ∧
    (State.resetOf c).minDelay = 0 ∧ (State.resetOf c).maxDelay = 0 ∧ (State.resetOf c).ctrlState = 0 ∧
    (State.resetOf c).phaseCnt = 0 ∧ (State.resetOf c).gate = false ∧ (State.resetOf c).heartbeat = false ∧
    (State.resetOf c).dimTarget = 0xFFFF

/-! ### Who writes what: rules over all operations -/

/-- No operation changes the configuration (R30), and none the words issued after it (log 4). -/
def Obligations.NoOperationChangesTheConfiguration : Prop :=
  ∀ (i : Instr) (s t : State), exec i s = .next t → t.cfg = s.cfg ∧ t.ops = s.ops

/-- DIM_TARGET is changed only by the host: by a WRITE of it, to the value written, or by RESET (R28, R52). -/
def Obligations.OnlyTheHostChangesDimTarget : Prop :=
  ∀ (i : Instr) (s t : State), exec i s = .next t → t.dimTarget ≠ s.dimTarget →
    i = .wrDimTarget t.dimTarget ∨ (i = .rst ∧ t.dimTarget = 0xFFFF)

/-- MIN_DELAY and MAX_DELAY change only in the operation that completes calibration, or by RESET (R22, R23, R39). -/
def Obligations.OnlyCompletionChangesTheBounds : Prop :=
  ∀ (i : Instr) (s t : State), exec i s = .next t → (t.minDelay ≠ s.minDelay ∨ t.maxDelay ≠ s.maxDelay) →
    i = .rst ∨ (s.calPhase = .collect ∧ t.calPhase = .done ∧ (i = .tick0 ∨ i = .tick1 ∨ i = .calCollect true))

/-- The gate is asserted only by DELAY firing in RUN mode on an armed DIM_TARGET, which enters TRIGGER with PHASE_CNT 0
(R26, R102, R112). -/
def Obligations.GateRisesOnlyByFiring : Prop :=
  ∀ (i : Instr) (s t : State), exec i s = .next t → s.gate = false → t.gate = true →
    s.calPhase = .done ∧ s.ctrlState = 0x02 ∧ armed s.cfg s.dimTarget.toNat = true ∧
    t.ctrlState = 0x03 ∧ t.phaseCnt = 0

/-- HEARTBEAT changes only where IDLE takes an accepted edge in RUN mode, by a TICK 1 whose edge is accepted or by the row it
runs, or by RESET (R27, R100, R147). -/
def Obligations.HeartbeatTogglesOnlyOnATakenEdge : Prop :=
  ∀ (i : Instr) (s t : State), exec i s = .next t → t.heartbeat ≠ s.heartbeat →
    i = .rst ∨
    (s.calPhase = .done ∧ s.ctrlState = 0x00 ∧ t.ctrlState = 0x01 ∧ t.phaseCnt = 0 ∧
      (i = .tick1 ∧ accept true s = true ∨ i = .pcIdle true ∨ i = .calDone true))

/-- CAL_PHASE only moves forward, one phase an operation, and stays DONE, until RESET (R17, R84). -/
def Obligations.CalPhaseOnlyMovesForward : Prop :=
  ∀ (i : Instr) (s t : State), exec i s = .next t → i ≠ .rst →
    s.calPhase.code.toNat ≤ t.calPhase.code.toNat ∧ t.calPhase.code.toNat ≤ s.calPhase.code.toNat + 1 ∧
    (s.calPhase = .done → t.calPhase = .done)

/-- An invalid CTRL_STATE arises only through FORCE_STATE (R24). -/
def Obligations.InvalidStatesAriseOnlyByForce : Prop :=
  ∀ (i : Instr) (s t : State), exec i s = .next t → s.ctrlState.toNat < 4 → 4 ≤ t.ctrlState.toNat →
    ∃ v, i = .wrForceState v ∧ t.ctrlState = v.extractLsb' 0 8

/-- Host operations and illegal words are no ticks: they change no counter, no calibration element, no output (R63, R130). -/
def Obligations.HostOperationsCountNoTick : Prop :=
  ∀ (i : Instr) (s t : State), exec i s = .next t → i.format = .write ∨ i.format = .read ∨ i.format = .illegal →
    t.zcPrev = s.zcPrev ∧ t.guard = s.guard ∧ t.calPhase = s.calPhase ∧ t.calCnt = s.calCnt ∧ t.calSum = s.calSum ∧
    t.calIdx = s.calIdx ∧ t.minDelay = s.minDelay ∧ t.maxDelay = s.maxDelay ∧ t.phaseCnt = s.phaseCnt ∧
    t.gate = s.gate ∧ t.heartbeat = s.heartbeat

/-- All state is readable: two states from which every READ returns the same RDATA have the same elements (R74). -/
def Obligations.ReadsRevealAllState : Prop :=
  ∀ s t : State, s.cfg.WF → t.cfg.WF →
    (∀ a : Addr, ∃ v, exec (decodeRead a) s = .next (s.setRdata (some v)) ∧
      exec (decodeRead a) t = .next (t.setRdata (some v))) →
    sameElements s t

/-! ### Invariants -/

/-- Every step keeps the calibration invariant (R39, R40, R94). -/
def Obligations.StepKeepsCalibrationInvariant : Prop :=
  ∀ s t : State, CalInv s → step s = .next t → CalInv t

/-- Every step but one that takes a FORCE_STATE write keeps the phase control invariant (R36, R37, R38). -/
def Obligations.UnforcedStepKeepsPhaseInvariant : Prop :=
  ∀ s t : State, UnforcedInv s → (∀ w rest, s.ops = w :: rest → isForce (decodeWord w) = false) →
    step s = .next t → UnforcedInv t

/-- With ACCEPTED edges, every step keeps GUARD and CAL_CNT equal while collecting (R96). -/
def Obligations.StepKeepsGuardTrackingCalCnt : Prop :=
  ∀ s t : State, GuardTracksCalCnt s → step s = .next t → GuardTracksCalCnt t

/-- The three invariants hold after reset, for every well-formed configuration. -/
def Obligations.InvariantsHoldAfterReset : Prop :=
  ∀ c : Config, c.WF →
    CalInv (State.resetOf c) ∧ UnforcedInv (State.resetOf c) ∧ GuardTracksCalCnt (State.resetOf c)

/-- Once calibrated, the average lies in the window and the bounds in their clamps; they are ordered where MIN_MAX ≤ MAX_MIN, and
no DIM_TARGET within them is OFF where MAX_MAX < SAFETY_TIMEOUT (R7, R90, R94). -/
def Obligations.CalibratedBoundsAreSound : Prop :=
  ∀ s : State, CalInv s → s.calPhase = .done →
    (s.cfg.calWinLo ≤ s.calSum.toNat / s.cfg.calN ∧ s.calSum.toNat / s.cfg.calN ≤ s.cfg.calWinHi) ∧
    (s.cfg.minMin ≤ s.minDelay.toNat ∧ s.minDelay.toNat ≤ s.cfg.minMax) ∧
    (s.cfg.maxMin ≤ s.maxDelay.toNat ∧ s.maxDelay.toNat ≤ s.cfg.maxMax) ∧
    (s.cfg.minMax ≤ s.cfg.maxMin → s.minDelay.toNat ≤ s.maxDelay.toNat) ∧
    (s.cfg.maxMax < s.cfg.safetyTimeout → ∀ d : Nat, d ≤ s.maxDelay.toNat → armed s.cfg d = true)

/-- With ACCEPTED edges, every sample that is taken is at least MIN_ZC_PERIOD + 2 (R96). -/
def Obligations.TakenSamplesPassTheNoiseGate : Prop :=
  ∀ (s t : State) (z : Bool), CalInv s → GuardTracksCalCnt s → s.cfg.calEdgeSource = .accepted →
    s.calPhase = .collect → exec (tickInstr z) s = .next t → t.calIdx ≠ s.calIdx →
    s.calSum.toNat + s.cfg.minZcPeriod + 2 ≤ t.calSum.toNat

/-! ### Runs: what the block does over any stream of ticks and host operations -/

/-- Accepted edges are at least MIN_ZC_PERIOD + 2 ticks apart, and none comes before tick MIN_ZC_PERIOD + 2 after reset,
whatever operations come between (R80). -/
def Obligations.AcceptedEdgesAreSpaced : Prop :=
  ∀ (s : State) (ws : List OpWord) (z : Bool), s.cfg.WF → ticksIn ws ≤ s.cfg.minZcPeriod →
    (s.zcPrev = false → s.cfg.minZcPeriod < s.guard.toNat →
      ∃ t, runWords (tickWord true :: ws) s = .next t ∧ accept z t = false) ∧
    (∃ t, runWords ws (State.resetOf s.cfg) = .next t ∧ accept z t = false)

/-- Without an accepted edge GUARD counts TICKs and saturates at 0xFFFF, where the next rising edge is accepted (R78, R82). -/
def Obligations.GuardCountsAndSaturates : Prop :=
  ∀ (s : State) (ws : List OpWord), s.cfg.WF → (ws.all fun w => !isRst (decodeWord w)) = true →
    countDuring acceptsAt ws s = 0 →
    ∃ t, runWords ws s = .next t ∧ t.guard.toNat = min 0xFFFF (s.guard.toNat + ticksIn ws) ∧
      (0xFFFF ≤ s.guard.toNat + ticksIn ws → t.zcPrev = false → accept true t = true)

/-- Without a rising edge calibration never completes, whatever the host does, RESET included (R95). -/
def Obligations.CalibrationStallsWithoutEdges : Prop :=
  ∀ (s : State) (ws : List OpWord), s.cfg.WF → s.calPhase ≠ .done → countDuring risesAt ws s = 0 →
    ∃ t, runWords ws s = .next t ∧ t.calPhase ≠ .done

/-- Calibration on a clean square input that starts high, tick by tick: each phase ends at its tick, sample k is taken at tick
(k + 2)P + 1, and CAL_PHASE is DONE after tick (CAL_N + 2)P + 1 with the bounds of the average P (R98, R91, R92). -/
def Obligations.CleanSquareInputCalibrates : Prop :=
  ∀ (c : Config) (h l p n : Nat), c.WF → 1 ≤ h → 1 ≤ l → p = h + l → c.calWinLo ≤ p → p ≤ c.calWinHi →
    c.zcIdleLevel = true → (c.calEdgeSource = .accepted → c.minZcPeriod + 2 ≤ p) → n ≤ (c.calN + 2) * p + 1 →
    ∃ t, runWords ((wave h l (c.calN + 3)).take n) (State.resetOf c) = .next t ∧
      t.calPhase =
        (if n ≤ h then .waitLow1 else if n ≤ p then .waitHigh else if n ≤ p + h then .waitLow2
         else if n ≤ 2 * p then .waitRef else if n ≤ (c.calN + 2) * p then .collect else .done) ∧
      (2 * p + 1 ≤ n → t.calIdx.toNat = (n - (2 * p + 1)) / p ∧ t.calSum.toNat = (n - (2 * p + 1)) / p * p) ∧
      (n = (c.calN + 2) * p + 1 →
        (t.maxDelay.toNat : Int) = maxDelayOf c p ∧ (t.minDelay.toNat : Int) = minDelayOf c p)

/-- Fire time: an edge taken in IDLE with an armed, constant DIM_TARGET D makes GATE 1 at the end of the TICK that is
ZC_OFFSET + max(D, 1) ticks later (R107). Before it OFFSET runs for ZC_OFFSET ticks, then DELAY, and GATE is as it was in
IDLE: 0, unless FORCE_STATE left it 1 (R37, R155). -/
def Obligations.ArmedCycleFiresOnTime : Prop :=
  ∀ (s : State) (ws : List OpWord), s.cfg.WF → s.calPhase = .done → s.ctrlState = 0x00 →
    s.zcPrev = false → s.cfg.minZcPeriod < s.guard.toNat → armed s.cfg s.dimTarget.toNat = true →
    undisturbedConstantDim ws = true →
    (ticksIn ws < s.cfg.zcOffset + max s.dimTarget.toNat 1 →
      ∃ t, runWords (tickWord true :: ws) s = .next t ∧ t.gate = s.gate ∧
        t.ctrlState = if ticksIn ws < s.cfg.zcOffset then 0x01 else 0x02) ∧
    (ticksIn ws = s.cfg.zcOffset + max s.dimTarget.toNat 1 →
      ∃ t, runWords (tickWord true :: ws) s = .next t ∧ t.gate = true ∧ t.ctrlState = 0x03 ∧ t.phaseCnt = 0)

/-- Pulse width: from the fire, GATE stays 1 for TRIGGER_PULSE_WIDTH ticks and is 0 at the end of the last, which returns to
IDLE, for every input and every DIM_TARGET write (R108). -/
def Obligations.PulseLastsItsWidth : Prop :=
  ∀ (s : State) (ws : List OpWord), s.cfg.WF → s.calPhase = .done → s.ctrlState = 0x03 → s.phaseCnt = 0 →
    s.gate = true → undisturbed ws = true →
    (ticksIn ws < s.cfg.triggerPulseWidth → ∃ t, runWords ws s = .next t ∧ t.gate = true ∧ t.ctrlState = 0x03) ∧
    (ticksIn ws = s.cfg.triggerPulseWidth →
      ∃ t, runWords ws s = .next t ∧ t.gate = false ∧ t.ctrlState = 0x00 ∧
        t.phaseCnt.toNat = s.cfg.triggerPulseWidth)

/-- OFF: an edge taken in IDLE with a constant DIM_TARGET that is not armed asserts no gate (GATE stays as it was in IDLE: 0,
unless FORCE_STATE left it 1: R37, R155), and the cycle times out at the end of the TICK that is
ZC_OFFSET + SAFETY_TIMEOUT ticks later, with GATE 0 and PHASE_CNT = SAFETY_TIMEOUT (R109). -/
def Obligations.OffCycleTimesOut : Prop :=
  ∀ (s : State) (ws : List OpWord), s.cfg.WF → s.calPhase = .done → s.ctrlState = 0x00 →
    s.zcPrev = false → s.cfg.minZcPeriod < s.guard.toNat → armed s.cfg s.dimTarget.toNat = false →
    undisturbedConstantDim ws = true →
    (ticksIn ws < s.cfg.zcOffset + s.cfg.safetyTimeout →
      ∃ t, runWords (tickWord true :: ws) s = .next t ∧ t.gate = s.gate ∧ t.ctrlState ≠ 0x00) ∧
    (ticksIn ws = s.cfg.zcOffset + s.cfg.safetyTimeout →
      ∃ t, runWords (tickWord true :: ws) s = .next t ∧ t.gate = false ∧ t.ctrlState = 0x00 ∧
        t.phaseCnt.toNat = s.cfg.safetyTimeout)

/-- Cycle length: after an edge taken in IDLE, no further edge is taken in the L ticks that follow (HEARTBEAT is not toggled
again), the machine is in another state before, and back in IDLE after the L-th (R105, R110). -/
def Obligations.CycleTakesNoOtherEdge : Prop :=
  ∀ (s : State) (ws : List OpWord), s.cfg.WF → s.calPhase = .done → s.ctrlState = 0x00 →
    s.zcPrev = false → s.cfg.minZcPeriod < s.guard.toNat → undisturbedConstantDim ws = true →
    ticksIn ws ≤ cycleTicks s.cfg s.dimTarget.toNat →
    ∃ t, runWords (tickWord true :: ws) s = .next t ∧ t.heartbeat = !s.heartbeat ∧
      (t.ctrlState = 0x00 ↔ ticksIn ws = cycleTicks s.cfg s.dimTarget.toNat)

/-- In an unforced run GATE is never 1 for more than TRIGGER_PULSE_WIDTH ticks (in every stretch of that many ticks there is a
moment with GATE 0), and phase control is back in IDLE within ZC_OFFSET + SAFETY_TIMEOUT + TRIGGER_PULSE_WIDTH ticks, whatever
the input and the DIM_TARGET writes: never permanently on, never silently stuck (R112). -/
def Obligations.UnforcedRunsReleaseTheGate : Prop :=
  ∀ (s : State) (ws : List OpWord), UnforcedInv s → unforced ws = true →
    (s.cfg.triggerPulseWidth ≤ ticksIn ws → ∃ n t, runWords (ws.take n) s = .next t ∧ t.gate = false) ∧
    (s.cfg.zcOffset + s.cfg.safetyTimeout + s.cfg.triggerPulseWidth ≤ ticksIn ws →
      ∃ n t, runWords (ws.take n) s = .next t ∧ t.ctrlState = 0x00)

/-- Forcing an invalid state in RUN mode: the next tick resets to IDLE with the gate low, and PHASE_CNT and HEARTBEAT as they
were (R104, R115). -/
def Obligations.ForcedInvalidStateHealsInOneTick : Prop :=
  ∀ (s : State) (v : Reg16) (z : Bool), s.cfg.WF → s.calPhase = .done → 4 ≤ (v.extractLsb' 0 8).toNat →
    ∃ t, runWords [writeWord 0x9 v, tickWord z] s = .next t ∧ t.ctrlState = 0x00 ∧ t.gate = false ∧
      t.phaseCnt = s.phaseCnt ∧ t.heartbeat = s.heartbeat

/-- Forcing IDLE while GATE is 1 leaves the gate asserted as long as no edge is accepted (R155). -/
def Obligations.ForcedIdleKeepsTheGate : Prop :=
  ∀ (s : State) (ws : List OpWord), s.cfg.WF → s.calPhase = .done → s.ctrlState = 0x00 → s.gate = true →
    undisturbed ws = true → countDuring acceptsAt ws s = 0 →
    ∃ t, runWords ws s = .next t ∧ t.gate = true ∧ t.ctrlState = 0x00

/-- READs, legal or illegal, disturb nothing: a run and the run without them leave the same elements (R46, R118). -/
def Obligations.ReadsDisturbNothing : Prop :=
  ∀ (s : State) (ws : List OpWord), s.cfg.WF →
    ∃ t u, runWords ws s = .next t ∧ runWords (ws.filter fun w => !isReadShaped w) s = .next u ∧ sameElements t u

/-- The two orders of a DIM_TARGET write and a TICK leave the same elements, except in a DELAY TICK, the only one that reads
DIM_TARGET (R49, R50, R102). -/
def Obligations.DimWriteCommutesWithOtherTicks : Prop :=
  ∀ (s : State) (v : Reg16) (z : Bool), s.cfg.WF → ¬ (s.calPhase = .done ∧ s.ctrlState = 0x02) →
    ∃ t u, runWords [writeWord 0x0 v, tickWord z] s = .next t ∧ runWords [tickWord z, writeWord 0x0 v] s = .next u ∧
      sameElements t u

/-! ### The assembler -/

/-- The assembler's lines give the operation words of their operations, an operand out of range is rejected, and the
pseudo-instructions give their expansions (R67, R68). -/
def Obligations.AssemblerGivesTheWords : Prop :=
  (∀ n v : Nat,
    assemble (.wr (.number n) v) =
      (if n < 16 ∧ v ≤ 0xFFFF then some [writeWord (BitVec.ofNat 4 n) (BitVec.ofNat 16 v)] else none) ∧
    assemble (.rd (.number n)) = (if n < 16 then some [readWord (BitVec.ofNat 4 n)] else none) ∧
    assemble (.tick v) = (if v = 0 then some [0x000000] else if v = 1 then some [0x000001] else none) ∧
    assemble (.word v) = (if v ≤ 0xFFFFFF then some [BitVec.ofNat 24 v] else none) ∧
    assemble (.ticks n 1) = some (List.replicate n 0x000001) ∧
    assemble (.ticks n 0) = some (List.replicate n 0x000000) ∧
    assemble (.setdim v) = assemble (.wr (.number 0) v) ∧
    assemble (.force v) = (if v ≤ 0xFF then assemble (.wr (.number 9) v) else none)) ∧
  (∀ h l k : Nat, assemble (.wave h l k) =
    some ((List.replicate k (List.replicate h (0x000001 : OpWord) ++ List.replicate l 0x000000)).flatten)) ∧
  assemble .rst = some [0xC00000] ∧ assemble .dimoff = some [0x40FFFF] ∧
  (∀ (r : String × Addr) (v : Nat), r ∈ registerNames →
    assemble (.wr (.named r.1) v) = assemble (.wr (.number r.2.toNat) v) ∧
    assemble (.rd (.named r.1)) = assemble (.rd (.number r.2.toNat)))
end

