-- ==== Sys2Proof/Laws/State.lean ====
section
/-!
SUPPORT. One lemma per field per update of State: the updated field reads the new value, every other field is unchanged.
-/

namespace Sys2Proof.Machine

@[simp] theorem State.setOps_cfg (s : State) (x : List OpWord) : (s.setOps x).cfg = s.cfg := rfl
@[simp] theorem State.setOps_ops (s : State) (x : List OpWord) : (s.setOps x).ops = x := rfl
@[simp] theorem State.setOps_rdata (s : State) (x : List OpWord) : (s.setOps x).rdata = s.rdata := rfl
@[simp] theorem State.setOps_zcPrev (s : State) (x : List OpWord) : (s.setOps x).zcPrev = s.zcPrev := rfl
@[simp] theorem State.setOps_guard (s : State) (x : List OpWord) : (s.setOps x).guard = s.guard := rfl
@[simp] theorem State.setOps_calPhase (s : State) (x : List OpWord) : (s.setOps x).calPhase = s.calPhase := rfl
@[simp] theorem State.setOps_calCnt (s : State) (x : List OpWord) : (s.setOps x).calCnt = s.calCnt := rfl
@[simp] theorem State.setOps_calSum (s : State) (x : List OpWord) : (s.setOps x).calSum = s.calSum := rfl
@[simp] theorem State.setOps_calIdx (s : State) (x : List OpWord) : (s.setOps x).calIdx = s.calIdx := rfl
@[simp] theorem State.setOps_minDelay (s : State) (x : List OpWord) : (s.setOps x).minDelay = s.minDelay := rfl
@[simp] theorem State.setOps_maxDelay (s : State) (x : List OpWord) : (s.setOps x).maxDelay = s.maxDelay := rfl
@[simp] theorem State.setOps_ctrlState (s : State) (x : List OpWord) : (s.setOps x).ctrlState = s.ctrlState := rfl
@[simp] theorem State.setOps_phaseCnt (s : State) (x : List OpWord) : (s.setOps x).phaseCnt = s.phaseCnt := rfl
@[simp] theorem State.setOps_gate (s : State) (x : List OpWord) : (s.setOps x).gate = s.gate := rfl
@[simp] theorem State.setOps_heartbeat (s : State) (x : List OpWord) : (s.setOps x).heartbeat = s.heartbeat := rfl
@[simp] theorem State.setOps_dimTarget (s : State) (x : List OpWord) : (s.setOps x).dimTarget = s.dimTarget := rfl

@[simp] theorem State.setRdata_cfg (s : State) (x : Option Reg16) : (s.setRdata x).cfg = s.cfg := rfl
@[simp] theorem State.setRdata_ops (s : State) (x : Option Reg16) : (s.setRdata x).ops = s.ops := rfl
@[simp] theorem State.setRdata_rdata (s : State) (x : Option Reg16) : (s.setRdata x).rdata = x := rfl
@[simp] theorem State.setRdata_zcPrev (s : State) (x : Option Reg16) : (s.setRdata x).zcPrev = s.zcPrev := rfl
@[simp] theorem State.setRdata_guard (s : State) (x : Option Reg16) : (s.setRdata x).guard = s.guard := rfl
@[simp] theorem State.setRdata_calPhase (s : State) (x : Option Reg16) : (s.setRdata x).calPhase = s.calPhase := rfl
@[simp] theorem State.setRdata_calCnt (s : State) (x : Option Reg16) : (s.setRdata x).calCnt = s.calCnt := rfl
@[simp] theorem State.setRdata_calSum (s : State) (x : Option Reg16) : (s.setRdata x).calSum = s.calSum := rfl
@[simp] theorem State.setRdata_calIdx (s : State) (x : Option Reg16) : (s.setRdata x).calIdx = s.calIdx := rfl
@[simp] theorem State.setRdata_minDelay (s : State) (x : Option Reg16) : (s.setRdata x).minDelay = s.minDelay := rfl
@[simp] theorem State.setRdata_maxDelay (s : State) (x : Option Reg16) : (s.setRdata x).maxDelay = s.maxDelay := rfl
@[simp] theorem State.setRdata_ctrlState (s : State) (x : Option Reg16) : (s.setRdata x).ctrlState = s.ctrlState := rfl
@[simp] theorem State.setRdata_phaseCnt (s : State) (x : Option Reg16) : (s.setRdata x).phaseCnt = s.phaseCnt := rfl
@[simp] theorem State.setRdata_gate (s : State) (x : Option Reg16) : (s.setRdata x).gate = s.gate := rfl
@[simp] theorem State.setRdata_heartbeat (s : State) (x : Option Reg16) : (s.setRdata x).heartbeat = s.heartbeat := rfl
@[simp] theorem State.setRdata_dimTarget (s : State) (x : Option Reg16) : (s.setRdata x).dimTarget = s.dimTarget := rfl

@[simp] theorem State.setZcPrev_cfg (s : State) (x : Bool) : (s.setZcPrev x).cfg = s.cfg := rfl
@[simp] theorem State.setZcPrev_ops (s : State) (x : Bool) : (s.setZcPrev x).ops = s.ops := rfl
@[simp] theorem State.setZcPrev_rdata (s : State) (x : Bool) : (s.setZcPrev x).rdata = s.rdata := rfl
@[simp] theorem State.setZcPrev_zcPrev (s : State) (x : Bool) : (s.setZcPrev x).zcPrev = x := rfl
@[simp] theorem State.setZcPrev_guard (s : State) (x : Bool) : (s.setZcPrev x).guard = s.guard := rfl
@[simp] theorem State.setZcPrev_calPhase (s : State) (x : Bool) : (s.setZcPrev x).calPhase = s.calPhase := rfl
@[simp] theorem State.setZcPrev_calCnt (s : State) (x : Bool) : (s.setZcPrev x).calCnt = s.calCnt := rfl
@[simp] theorem State.setZcPrev_calSum (s : State) (x : Bool) : (s.setZcPrev x).calSum = s.calSum := rfl
@[simp] theorem State.setZcPrev_calIdx (s : State) (x : Bool) : (s.setZcPrev x).calIdx = s.calIdx := rfl
@[simp] theorem State.setZcPrev_minDelay (s : State) (x : Bool) : (s.setZcPrev x).minDelay = s.minDelay := rfl
@[simp] theorem State.setZcPrev_maxDelay (s : State) (x : Bool) : (s.setZcPrev x).maxDelay = s.maxDelay := rfl
@[simp] theorem State.setZcPrev_ctrlState (s : State) (x : Bool) : (s.setZcPrev x).ctrlState = s.ctrlState := rfl
@[simp] theorem State.setZcPrev_phaseCnt (s : State) (x : Bool) : (s.setZcPrev x).phaseCnt = s.phaseCnt := rfl
@[simp] theorem State.setZcPrev_gate (s : State) (x : Bool) : (s.setZcPrev x).gate = s.gate := rfl
@[simp] theorem State.setZcPrev_heartbeat (s : State) (x : Bool) : (s.setZcPrev x).heartbeat = s.heartbeat := rfl
@[simp] theorem State.setZcPrev_dimTarget (s : State) (x : Bool) : (s.setZcPrev x).dimTarget = s.dimTarget := rfl

@[simp] theorem State.setGuard_cfg (s : State) (x : Reg16) : (s.setGuard x).cfg = s.cfg := rfl
@[simp] theorem State.setGuard_ops (s : State) (x : Reg16) : (s.setGuard x).ops = s.ops := rfl
@[simp] theorem State.setGuard_rdata (s : State) (x : Reg16) : (s.setGuard x).rdata = s.rdata := rfl
@[simp] theorem State.setGuard_zcPrev (s : State) (x : Reg16) : (s.setGuard x).zcPrev = s.zcPrev := rfl
@[simp] theorem State.setGuard_guard (s : State) (x : Reg16) : (s.setGuard x).guard = x := rfl
@[simp] theorem State.setGuard_calPhase (s : State) (x : Reg16) : (s.setGuard x).calPhase = s.calPhase := rfl
@[simp] theorem State.setGuard_calCnt (s : State) (x : Reg16) : (s.setGuard x).calCnt = s.calCnt := rfl
@[simp] theorem State.setGuard_calSum (s : State) (x : Reg16) : (s.setGuard x).calSum = s.calSum := rfl
@[simp] theorem State.setGuard_calIdx (s : State) (x : Reg16) : (s.setGuard x).calIdx = s.calIdx := rfl
@[simp] theorem State.setGuard_minDelay (s : State) (x : Reg16) : (s.setGuard x).minDelay = s.minDelay := rfl
@[simp] theorem State.setGuard_maxDelay (s : State) (x : Reg16) : (s.setGuard x).maxDelay = s.maxDelay := rfl
@[simp] theorem State.setGuard_ctrlState (s : State) (x : Reg16) : (s.setGuard x).ctrlState = s.ctrlState := rfl
@[simp] theorem State.setGuard_phaseCnt (s : State) (x : Reg16) : (s.setGuard x).phaseCnt = s.phaseCnt := rfl
@[simp] theorem State.setGuard_gate (s : State) (x : Reg16) : (s.setGuard x).gate = s.gate := rfl
@[simp] theorem State.setGuard_heartbeat (s : State) (x : Reg16) : (s.setGuard x).heartbeat = s.heartbeat := rfl
@[simp] theorem State.setGuard_dimTarget (s : State) (x : Reg16) : (s.setGuard x).dimTarget = s.dimTarget := rfl

@[simp] theorem State.setCalPhase_cfg (s : State) (x : CalPhase) : (s.setCalPhase x).cfg = s.cfg := rfl
@[simp] theorem State.setCalPhase_ops (s : State) (x : CalPhase) : (s.setCalPhase x).ops = s.ops := rfl
@[simp] theorem State.setCalPhase_rdata (s : State) (x : CalPhase) : (s.setCalPhase x).rdata = s.rdata := rfl
@[simp] theorem State.setCalPhase_zcPrev (s : State) (x : CalPhase) : (s.setCalPhase x).zcPrev = s.zcPrev := rfl
@[simp] theorem State.setCalPhase_guard (s : State) (x : CalPhase) : (s.setCalPhase x).guard = s.guard := rfl
@[simp] theorem State.setCalPhase_calPhase (s : State) (x : CalPhase) : (s.setCalPhase x).calPhase = x := rfl
@[simp] theorem State.setCalPhase_calCnt (s : State) (x : CalPhase) : (s.setCalPhase x).calCnt = s.calCnt := rfl
@[simp] theorem State.setCalPhase_calSum (s : State) (x : CalPhase) : (s.setCalPhase x).calSum = s.calSum := rfl
@[simp] theorem State.setCalPhase_calIdx (s : State) (x : CalPhase) : (s.setCalPhase x).calIdx = s.calIdx := rfl
@[simp] theorem State.setCalPhase_minDelay (s : State) (x : CalPhase) : (s.setCalPhase x).minDelay = s.minDelay := rfl
@[simp] theorem State.setCalPhase_maxDelay (s : State) (x : CalPhase) : (s.setCalPhase x).maxDelay = s.maxDelay := rfl
@[simp] theorem State.setCalPhase_ctrlState (s : State) (x : CalPhase) : (s.setCalPhase x).ctrlState = s.ctrlState := rfl
@[simp] theorem State.setCalPhase_phaseCnt (s : State) (x : CalPhase) : (s.setCalPhase x).phaseCnt = s.phaseCnt := rfl
@[simp] theorem State.setCalPhase_gate (s : State) (x : CalPhase) : (s.setCalPhase x).gate = s.gate := rfl
@[simp] theorem State.setCalPhase_heartbeat (s : State) (x : CalPhase) : (s.setCalPhase x).heartbeat = s.heartbeat := rfl
@[simp] theorem State.setCalPhase_dimTarget (s : State) (x : CalPhase) : (s.setCalPhase x).dimTarget = s.dimTarget := rfl

@[simp] theorem State.setCalCnt_cfg (s : State) (x : Reg16) : (s.setCalCnt x).cfg = s.cfg := rfl
@[simp] theorem State.setCalCnt_ops (s : State) (x : Reg16) : (s.setCalCnt x).ops = s.ops := rfl
@[simp] theorem State.setCalCnt_rdata (s : State) (x : Reg16) : (s.setCalCnt x).rdata = s.rdata := rfl
@[simp] theorem State.setCalCnt_zcPrev (s : State) (x : Reg16) : (s.setCalCnt x).zcPrev = s.zcPrev := rfl
@[simp] theorem State.setCalCnt_guard (s : State) (x : Reg16) : (s.setCalCnt x).guard = s.guard := rfl
@[simp] theorem State.setCalCnt_calPhase (s : State) (x : Reg16) : (s.setCalCnt x).calPhase = s.calPhase := rfl
@[simp] theorem State.setCalCnt_calCnt (s : State) (x : Reg16) : (s.setCalCnt x).calCnt = x := rfl
@[simp] theorem State.setCalCnt_calSum (s : State) (x : Reg16) : (s.setCalCnt x).calSum = s.calSum := rfl
@[simp] theorem State.setCalCnt_calIdx (s : State) (x : Reg16) : (s.setCalCnt x).calIdx = s.calIdx := rfl
@[simp] theorem State.setCalCnt_minDelay (s : State) (x : Reg16) : (s.setCalCnt x).minDelay = s.minDelay := rfl
@[simp] theorem State.setCalCnt_maxDelay (s : State) (x : Reg16) : (s.setCalCnt x).maxDelay = s.maxDelay := rfl
@[simp] theorem State.setCalCnt_ctrlState (s : State) (x : Reg16) : (s.setCalCnt x).ctrlState = s.ctrlState := rfl
@[simp] theorem State.setCalCnt_phaseCnt (s : State) (x : Reg16) : (s.setCalCnt x).phaseCnt = s.phaseCnt := rfl
@[simp] theorem State.setCalCnt_gate (s : State) (x : Reg16) : (s.setCalCnt x).gate = s.gate := rfl
@[simp] theorem State.setCalCnt_heartbeat (s : State) (x : Reg16) : (s.setCalCnt x).heartbeat = s.heartbeat := rfl
@[simp] theorem State.setCalCnt_dimTarget (s : State) (x : Reg16) : (s.setCalCnt x).dimTarget = s.dimTarget := rfl

@[simp] theorem State.setCalSum_cfg (s : State) (x : Reg16) : (s.setCalSum x).cfg = s.cfg := rfl
@[simp] theorem State.setCalSum_ops (s : State) (x : Reg16) : (s.setCalSum x).ops = s.ops := rfl
@[simp] theorem State.setCalSum_rdata (s : State) (x : Reg16) : (s.setCalSum x).rdata = s.rdata := rfl
@[simp] theorem State.setCalSum_zcPrev (s : State) (x : Reg16) : (s.setCalSum x).zcPrev = s.zcPrev := rfl
@[simp] theorem State.setCalSum_guard (s : State) (x : Reg16) : (s.setCalSum x).guard = s.guard := rfl
@[simp] theorem State.setCalSum_calPhase (s : State) (x : Reg16) : (s.setCalSum x).calPhase = s.calPhase := rfl
@[simp] theorem State.setCalSum_calCnt (s : State) (x : Reg16) : (s.setCalSum x).calCnt = s.calCnt := rfl
@[simp] theorem State.setCalSum_calSum (s : State) (x : Reg16) : (s.setCalSum x).calSum = x := rfl
@[simp] theorem State.setCalSum_calIdx (s : State) (x : Reg16) : (s.setCalSum x).calIdx = s.calIdx := rfl
@[simp] theorem State.setCalSum_minDelay (s : State) (x : Reg16) : (s.setCalSum x).minDelay = s.minDelay := rfl
@[simp] theorem State.setCalSum_maxDelay (s : State) (x : Reg16) : (s.setCalSum x).maxDelay = s.maxDelay := rfl
@[simp] theorem State.setCalSum_ctrlState (s : State) (x : Reg16) : (s.setCalSum x).ctrlState = s.ctrlState := rfl
@[simp] theorem State.setCalSum_phaseCnt (s : State) (x : Reg16) : (s.setCalSum x).phaseCnt = s.phaseCnt := rfl
@[simp] theorem State.setCalSum_gate (s : State) (x : Reg16) : (s.setCalSum x).gate = s.gate := rfl
@[simp] theorem State.setCalSum_heartbeat (s : State) (x : Reg16) : (s.setCalSum x).heartbeat = s.heartbeat := rfl
@[simp] theorem State.setCalSum_dimTarget (s : State) (x : Reg16) : (s.setCalSum x).dimTarget = s.dimTarget := rfl

@[simp] theorem State.setCalIdx_cfg (s : State) (x : Reg8) : (s.setCalIdx x).cfg = s.cfg := rfl
@[simp] theorem State.setCalIdx_ops (s : State) (x : Reg8) : (s.setCalIdx x).ops = s.ops := rfl
@[simp] theorem State.setCalIdx_rdata (s : State) (x : Reg8) : (s.setCalIdx x).rdata = s.rdata := rfl
@[simp] theorem State.setCalIdx_zcPrev (s : State) (x : Reg8) : (s.setCalIdx x).zcPrev = s.zcPrev := rfl
@[simp] theorem State.setCalIdx_guard (s : State) (x : Reg8) : (s.setCalIdx x).guard = s.guard := rfl
@[simp] theorem State.setCalIdx_calPhase (s : State) (x : Reg8) : (s.setCalIdx x).calPhase = s.calPhase := rfl
@[simp] theorem State.setCalIdx_calCnt (s : State) (x : Reg8) : (s.setCalIdx x).calCnt = s.calCnt := rfl
@[simp] theorem State.setCalIdx_calSum (s : State) (x : Reg8) : (s.setCalIdx x).calSum = s.calSum := rfl
@[simp] theorem State.setCalIdx_calIdx (s : State) (x : Reg8) : (s.setCalIdx x).calIdx = x := rfl
@[simp] theorem State.setCalIdx_minDelay (s : State) (x : Reg8) : (s.setCalIdx x).minDelay = s.minDelay := rfl
@[simp] theorem State.setCalIdx_maxDelay (s : State) (x : Reg8) : (s.setCalIdx x).maxDelay = s.maxDelay := rfl
@[simp] theorem State.setCalIdx_ctrlState (s : State) (x : Reg8) : (s.setCalIdx x).ctrlState = s.ctrlState := rfl
@[simp] theorem State.setCalIdx_phaseCnt (s : State) (x : Reg8) : (s.setCalIdx x).phaseCnt = s.phaseCnt := rfl
@[simp] theorem State.setCalIdx_gate (s : State) (x : Reg8) : (s.setCalIdx x).gate = s.gate := rfl
@[simp] theorem State.setCalIdx_heartbeat (s : State) (x : Reg8) : (s.setCalIdx x).heartbeat = s.heartbeat := rfl
@[simp] theorem State.setCalIdx_dimTarget (s : State) (x : Reg8) : (s.setCalIdx x).dimTarget = s.dimTarget := rfl

@[simp] theorem State.setMinDelay_cfg (s : State) (x : Reg16) : (s.setMinDelay x).cfg = s.cfg := rfl
@[simp] theorem State.setMinDelay_ops (s : State) (x : Reg16) : (s.setMinDelay x).ops = s.ops := rfl
@[simp] theorem State.setMinDelay_rdata (s : State) (x : Reg16) : (s.setMinDelay x).rdata = s.rdata := rfl
@[simp] theorem State.setMinDelay_zcPrev (s : State) (x : Reg16) : (s.setMinDelay x).zcPrev = s.zcPrev := rfl
@[simp] theorem State.setMinDelay_guard (s : State) (x : Reg16) : (s.setMinDelay x).guard = s.guard := rfl
@[simp] theorem State.setMinDelay_calPhase (s : State) (x : Reg16) : (s.setMinDelay x).calPhase = s.calPhase := rfl
@[simp] theorem State.setMinDelay_calCnt (s : State) (x : Reg16) : (s.setMinDelay x).calCnt = s.calCnt := rfl
@[simp] theorem State.setMinDelay_calSum (s : State) (x : Reg16) : (s.setMinDelay x).calSum = s.calSum := rfl
@[simp] theorem State.setMinDelay_calIdx (s : State) (x : Reg16) : (s.setMinDelay x).calIdx = s.calIdx := rfl
@[simp] theorem State.setMinDelay_minDelay (s : State) (x : Reg16) : (s.setMinDelay x).minDelay = x := rfl
@[simp] theorem State.setMinDelay_maxDelay (s : State) (x : Reg16) : (s.setMinDelay x).maxDelay = s.maxDelay := rfl
@[simp] theorem State.setMinDelay_ctrlState (s : State) (x : Reg16) : (s.setMinDelay x).ctrlState = s.ctrlState := rfl
@[simp] theorem State.setMinDelay_phaseCnt (s : State) (x : Reg16) : (s.setMinDelay x).phaseCnt = s.phaseCnt := rfl
@[simp] theorem State.setMinDelay_gate (s : State) (x : Reg16) : (s.setMinDelay x).gate = s.gate := rfl
@[simp] theorem State.setMinDelay_heartbeat (s : State) (x : Reg16) : (s.setMinDelay x).heartbeat = s.heartbeat := rfl
@[simp] theorem State.setMinDelay_dimTarget (s : State) (x : Reg16) : (s.setMinDelay x).dimTarget = s.dimTarget := rfl

@[simp] theorem State.setMaxDelay_cfg (s : State) (x : Reg16) : (s.setMaxDelay x).cfg = s.cfg := rfl
@[simp] theorem State.setMaxDelay_ops (s : State) (x : Reg16) : (s.setMaxDelay x).ops = s.ops := rfl
@[simp] theorem State.setMaxDelay_rdata (s : State) (x : Reg16) : (s.setMaxDelay x).rdata = s.rdata := rfl
@[simp] theorem State.setMaxDelay_zcPrev (s : State) (x : Reg16) : (s.setMaxDelay x).zcPrev = s.zcPrev := rfl
@[simp] theorem State.setMaxDelay_guard (s : State) (x : Reg16) : (s.setMaxDelay x).guard = s.guard := rfl
@[simp] theorem State.setMaxDelay_calPhase (s : State) (x : Reg16) : (s.setMaxDelay x).calPhase = s.calPhase := rfl
@[simp] theorem State.setMaxDelay_calCnt (s : State) (x : Reg16) : (s.setMaxDelay x).calCnt = s.calCnt := rfl
@[simp] theorem State.setMaxDelay_calSum (s : State) (x : Reg16) : (s.setMaxDelay x).calSum = s.calSum := rfl
@[simp] theorem State.setMaxDelay_calIdx (s : State) (x : Reg16) : (s.setMaxDelay x).calIdx = s.calIdx := rfl
@[simp] theorem State.setMaxDelay_minDelay (s : State) (x : Reg16) : (s.setMaxDelay x).minDelay = s.minDelay := rfl
@[simp] theorem State.setMaxDelay_maxDelay (s : State) (x : Reg16) : (s.setMaxDelay x).maxDelay = x := rfl
@[simp] theorem State.setMaxDelay_ctrlState (s : State) (x : Reg16) : (s.setMaxDelay x).ctrlState = s.ctrlState := rfl
@[simp] theorem State.setMaxDelay_phaseCnt (s : State) (x : Reg16) : (s.setMaxDelay x).phaseCnt = s.phaseCnt := rfl
@[simp] theorem State.setMaxDelay_gate (s : State) (x : Reg16) : (s.setMaxDelay x).gate = s.gate := rfl
@[simp] theorem State.setMaxDelay_heartbeat (s : State) (x : Reg16) : (s.setMaxDelay x).heartbeat = s.heartbeat := rfl
@[simp] theorem State.setMaxDelay_dimTarget (s : State) (x : Reg16) : (s.setMaxDelay x).dimTarget = s.dimTarget := rfl

@[simp] theorem State.setCtrlState_cfg (s : State) (x : Reg8) : (s.setCtrlState x).cfg = s.cfg := rfl
@[simp] theorem State.setCtrlState_ops (s : State) (x : Reg8) : (s.setCtrlState x).ops = s.ops := rfl
@[simp] theorem State.setCtrlState_rdata (s : State) (x : Reg8) : (s.setCtrlState x).rdata = s.rdata := rfl
@[simp] theorem State.setCtrlState_zcPrev (s : State) (x : Reg8) : (s.setCtrlState x).zcPrev = s.zcPrev := rfl
@[simp] theorem State.setCtrlState_guard (s : State) (x : Reg8) : (s.setCtrlState x).guard = s.guard := rfl
@[simp] theorem State.setCtrlState_calPhase (s : State) (x : Reg8) : (s.setCtrlState x).calPhase = s.calPhase := rfl
@[simp] theorem State.setCtrlState_calCnt (s : State) (x : Reg8) : (s.setCtrlState x).calCnt = s.calCnt := rfl
@[simp] theorem State.setCtrlState_calSum (s : State) (x : Reg8) : (s.setCtrlState x).calSum = s.calSum := rfl
@[simp] theorem State.setCtrlState_calIdx (s : State) (x : Reg8) : (s.setCtrlState x).calIdx = s.calIdx := rfl
@[simp] theorem State.setCtrlState_minDelay (s : State) (x : Reg8) : (s.setCtrlState x).minDelay = s.minDelay := rfl
@[simp] theorem State.setCtrlState_maxDelay (s : State) (x : Reg8) : (s.setCtrlState x).maxDelay = s.maxDelay := rfl
@[simp] theorem State.setCtrlState_ctrlState (s : State) (x : Reg8) : (s.setCtrlState x).ctrlState = x := rfl
@[simp] theorem State.setCtrlState_phaseCnt (s : State) (x : Reg8) : (s.setCtrlState x).phaseCnt = s.phaseCnt := rfl
@[simp] theorem State.setCtrlState_gate (s : State) (x : Reg8) : (s.setCtrlState x).gate = s.gate := rfl
@[simp] theorem State.setCtrlState_heartbeat (s : State) (x : Reg8) : (s.setCtrlState x).heartbeat = s.heartbeat := rfl
@[simp] theorem State.setCtrlState_dimTarget (s : State) (x : Reg8) : (s.setCtrlState x).dimTarget = s.dimTarget := rfl

@[simp] theorem State.setPhaseCnt_cfg (s : State) (x : Reg16) : (s.setPhaseCnt x).cfg = s.cfg := rfl
@[simp] theorem State.setPhaseCnt_ops (s : State) (x : Reg16) : (s.setPhaseCnt x).ops = s.ops := rfl
@[simp] theorem State.setPhaseCnt_rdata (s : State) (x : Reg16) : (s.setPhaseCnt x).rdata = s.rdata := rfl
@[simp] theorem State.setPhaseCnt_zcPrev (s : State) (x : Reg16) : (s.setPhaseCnt x).zcPrev = s.zcPrev := rfl
@[simp] theorem State.setPhaseCnt_guard (s : State) (x : Reg16) : (s.setPhaseCnt x).guard = s.guard := rfl
@[simp] theorem State.setPhaseCnt_calPhase (s : State) (x : Reg16) : (s.setPhaseCnt x).calPhase = s.calPhase := rfl
@[simp] theorem State.setPhaseCnt_calCnt (s : State) (x : Reg16) : (s.setPhaseCnt x).calCnt = s.calCnt := rfl
@[simp] theorem State.setPhaseCnt_calSum (s : State) (x : Reg16) : (s.setPhaseCnt x).calSum = s.calSum := rfl
@[simp] theorem State.setPhaseCnt_calIdx (s : State) (x : Reg16) : (s.setPhaseCnt x).calIdx = s.calIdx := rfl
@[simp] theorem State.setPhaseCnt_minDelay (s : State) (x : Reg16) : (s.setPhaseCnt x).minDelay = s.minDelay := rfl
@[simp] theorem State.setPhaseCnt_maxDelay (s : State) (x : Reg16) : (s.setPhaseCnt x).maxDelay = s.maxDelay := rfl
@[simp] theorem State.setPhaseCnt_ctrlState (s : State) (x : Reg16) : (s.setPhaseCnt x).ctrlState = s.ctrlState := rfl
@[simp] theorem State.setPhaseCnt_phaseCnt (s : State) (x : Reg16) : (s.setPhaseCnt x).phaseCnt = x := rfl
@[simp] theorem State.setPhaseCnt_gate (s : State) (x : Reg16) : (s.setPhaseCnt x).gate = s.gate := rfl
@[simp] theorem State.setPhaseCnt_heartbeat (s : State) (x : Reg16) : (s.setPhaseCnt x).heartbeat = s.heartbeat := rfl
@[simp] theorem State.setPhaseCnt_dimTarget (s : State) (x : Reg16) : (s.setPhaseCnt x).dimTarget = s.dimTarget := rfl

@[simp] theorem State.setGate_cfg (s : State) (x : Bool) : (s.setGate x).cfg = s.cfg := rfl
@[simp] theorem State.setGate_ops (s : State) (x : Bool) : (s.setGate x).ops = s.ops := rfl
@[simp] theorem State.setGate_rdata (s : State) (x : Bool) : (s.setGate x).rdata = s.rdata := rfl
@[simp] theorem State.setGate_zcPrev (s : State) (x : Bool) : (s.setGate x).zcPrev = s.zcPrev := rfl
@[simp] theorem State.setGate_guard (s : State) (x : Bool) : (s.setGate x).guard = s.guard := rfl
@[simp] theorem State.setGate_calPhase (s : State) (x : Bool) : (s.setGate x).calPhase = s.calPhase := rfl
@[simp] theorem State.setGate_calCnt (s : State) (x : Bool) : (s.setGate x).calCnt = s.calCnt := rfl
@[simp] theorem State.setGate_calSum (s : State) (x : Bool) : (s.setGate x).calSum = s.calSum := rfl
@[simp] theorem State.setGate_calIdx (s : State) (x : Bool) : (s.setGate x).calIdx = s.calIdx := rfl
@[simp] theorem State.setGate_minDelay (s : State) (x : Bool) : (s.setGate x).minDelay = s.minDelay := rfl
@[simp] theorem State.setGate_maxDelay (s : State) (x : Bool) : (s.setGate x).maxDelay = s.maxDelay := rfl
@[simp] theorem State.setGate_ctrlState (s : State) (x : Bool) : (s.setGate x).ctrlState = s.ctrlState := rfl
@[simp] theorem State.setGate_phaseCnt (s : State) (x : Bool) : (s.setGate x).phaseCnt = s.phaseCnt := rfl
@[simp] theorem State.setGate_gate (s : State) (x : Bool) : (s.setGate x).gate = x := rfl
@[simp] theorem State.setGate_heartbeat (s : State) (x : Bool) : (s.setGate x).heartbeat = s.heartbeat := rfl
@[simp] theorem State.setGate_dimTarget (s : State) (x : Bool) : (s.setGate x).dimTarget = s.dimTarget := rfl

@[simp] theorem State.setHeartbeat_cfg (s : State) (x : Bool) : (s.setHeartbeat x).cfg = s.cfg := rfl
@[simp] theorem State.setHeartbeat_ops (s : State) (x : Bool) : (s.setHeartbeat x).ops = s.ops := rfl
@[simp] theorem State.setHeartbeat_rdata (s : State) (x : Bool) : (s.setHeartbeat x).rdata = s.rdata := rfl
@[simp] theorem State.setHeartbeat_zcPrev (s : State) (x : Bool) : (s.setHeartbeat x).zcPrev = s.zcPrev := rfl
@[simp] theorem State.setHeartbeat_guard (s : State) (x : Bool) : (s.setHeartbeat x).guard = s.guard := rfl
@[simp] theorem State.setHeartbeat_calPhase (s : State) (x : Bool) : (s.setHeartbeat x).calPhase = s.calPhase := rfl
@[simp] theorem State.setHeartbeat_calCnt (s : State) (x : Bool) : (s.setHeartbeat x).calCnt = s.calCnt := rfl
@[simp] theorem State.setHeartbeat_calSum (s : State) (x : Bool) : (s.setHeartbeat x).calSum = s.calSum := rfl
@[simp] theorem State.setHeartbeat_calIdx (s : State) (x : Bool) : (s.setHeartbeat x).calIdx = s.calIdx := rfl
@[simp] theorem State.setHeartbeat_minDelay (s : State) (x : Bool) : (s.setHeartbeat x).minDelay = s.minDelay := rfl
@[simp] theorem State.setHeartbeat_maxDelay (s : State) (x : Bool) : (s.setHeartbeat x).maxDelay = s.maxDelay := rfl
@[simp] theorem State.setHeartbeat_ctrlState (s : State) (x : Bool) : (s.setHeartbeat x).ctrlState = s.ctrlState := rfl
@[simp] theorem State.setHeartbeat_phaseCnt (s : State) (x : Bool) : (s.setHeartbeat x).phaseCnt = s.phaseCnt := rfl
@[simp] theorem State.setHeartbeat_gate (s : State) (x : Bool) : (s.setHeartbeat x).gate = s.gate := rfl
@[simp] theorem State.setHeartbeat_heartbeat (s : State) (x : Bool) : (s.setHeartbeat x).heartbeat = x := rfl
@[simp] theorem State.setHeartbeat_dimTarget (s : State) (x : Bool) : (s.setHeartbeat x).dimTarget = s.dimTarget := rfl

@[simp] theorem State.setDimTarget_cfg (s : State) (x : Reg16) : (s.setDimTarget x).cfg = s.cfg := rfl
@[simp] theorem State.setDimTarget_ops (s : State) (x : Reg16) : (s.setDimTarget x).ops = s.ops := rfl
@[simp] theorem State.setDimTarget_rdata (s : State) (x : Reg16) : (s.setDimTarget x).rdata = s.rdata := rfl
@[simp] theorem State.setDimTarget_zcPrev (s : State) (x : Reg16) : (s.setDimTarget x).zcPrev = s.zcPrev := rfl
@[simp] theorem State.setDimTarget_guard (s : State) (x : Reg16) : (s.setDimTarget x).guard = s.guard := rfl
@[simp] theorem State.setDimTarget_calPhase (s : State) (x : Reg16) : (s.setDimTarget x).calPhase = s.calPhase := rfl
@[simp] theorem State.setDimTarget_calCnt (s : State) (x : Reg16) : (s.setDimTarget x).calCnt = s.calCnt := rfl
@[simp] theorem State.setDimTarget_calSum (s : State) (x : Reg16) : (s.setDimTarget x).calSum = s.calSum := rfl
@[simp] theorem State.setDimTarget_calIdx (s : State) (x : Reg16) : (s.setDimTarget x).calIdx = s.calIdx := rfl
@[simp] theorem State.setDimTarget_minDelay (s : State) (x : Reg16) : (s.setDimTarget x).minDelay = s.minDelay := rfl
@[simp] theorem State.setDimTarget_maxDelay (s : State) (x : Reg16) : (s.setDimTarget x).maxDelay = s.maxDelay := rfl
@[simp] theorem State.setDimTarget_ctrlState (s : State) (x : Reg16) : (s.setDimTarget x).ctrlState = s.ctrlState := rfl
@[simp] theorem State.setDimTarget_phaseCnt (s : State) (x : Reg16) : (s.setDimTarget x).phaseCnt = s.phaseCnt := rfl
@[simp] theorem State.setDimTarget_gate (s : State) (x : Reg16) : (s.setDimTarget x).gate = s.gate := rfl
@[simp] theorem State.setDimTarget_heartbeat (s : State) (x : Reg16) : (s.setDimTarget x).heartbeat = s.heartbeat := rfl
@[simp] theorem State.setDimTarget_dimTarget (s : State) (x : Reg16) : (s.setDimTarget x).dimTarget = x := rfl

@[simp] theorem State.resetOf_cfg (c : Config) : (State.resetOf c).cfg = c := rfl
@[simp] theorem State.resetOf_ops (c : Config) : (State.resetOf c).ops = [] := rfl
@[simp] theorem State.resetOf_rdata (c : Config) : (State.resetOf c).rdata = none := rfl
@[simp] theorem State.resetOf_zcPrev (c : Config) : (State.resetOf c).zcPrev = c.zcIdleLevel := rfl
@[simp] theorem State.resetOf_guard (c : Config) : (State.resetOf c).guard = 0 := rfl
@[simp] theorem State.resetOf_calPhase (c : Config) : (State.resetOf c).calPhase = .waitLow1 := rfl
@[simp] theorem State.resetOf_calCnt (c : Config) : (State.resetOf c).calCnt = 0 := rfl
@[simp] theorem State.resetOf_calSum (c : Config) : (State.resetOf c).calSum = 0 := rfl
@[simp] theorem State.resetOf_calIdx (c : Config) : (State.resetOf c).calIdx = 0 := rfl
@[simp] theorem State.resetOf_minDelay (c : Config) : (State.resetOf c).minDelay = 0 := rfl
@[simp] theorem State.resetOf_maxDelay (c : Config) : (State.resetOf c).maxDelay = 0 := rfl
@[simp] theorem State.resetOf_ctrlState (c : Config) : (State.resetOf c).ctrlState = 0 := rfl
@[simp] theorem State.resetOf_phaseCnt (c : Config) : (State.resetOf c).phaseCnt = 0 := rfl
@[simp] theorem State.resetOf_gate (c : Config) : (State.resetOf c).gate = false := rfl
@[simp] theorem State.resetOf_heartbeat (c : Config) : (State.resetOf c).heartbeat = false := rfl
@[simp] theorem State.resetOf_dimTarget (c : Config) : (State.resetOf c).dimTarget = 0xFFFF := rfl

end Sys2Proof.Machine
end

