-- ==== Sys2Proof/Laws/Ops.lean ====
section
/-!
SUPPORT. What each shared operation can do, said once: the arithmetic of R10, how an operation ends, taking and issuing a word,
the host register accesses, RESET.
-/

namespace Sys2Proof.Machine

/-! ### Arithmetic -/

theorem satInc16_toNat (v : Reg16) : (satInc16 v).toNat = min 0xFFFF (v.toNat + 1) := by
  have := v.isLt
  unfold satInc16
  split
  · rw [BitVec.toNat_ofNat]; omega
  · rw [show (0xFFFF : Reg16).toNat = 0xFFFF from rfl]; omega

theorem inc16_toNat_of_lt (v : Reg16) (h : v.toNat < 0xFFFF) : (inc16 v).toNat = v.toNat + 1 := by
  unfold inc16; rw [BitVec.toNat_ofNat]; omega

theorem clamp_bounds (x : Int) {lo hi : Int} (h : lo ≤ hi) : lo ≤ clamp x lo hi ∧ clamp x lo hi ≤ hi := by
  unfold clamp; split
  · omega
  · split <;> omega

theorem narrowCalSum_toNat {n : Nat} (h : n ≤ 0xFFFF) : (narrowCalSum n).toNat = n := by
  unfold narrowCalSum; rw [if_pos h, BitVec.toNat_ofNat]; omega

theorem narrowCalIdx_toNat {n : Nat} (h : n ≤ 0xFF) : (narrowCalIdx n).toNat = n := by
  unfold narrowCalIdx; rw [if_pos h, BitVec.toNat_ofNat]; omega

/-- A bound narrowed to its register is the clamped integer: the clamps of a well-formed configuration fit 16 bits (R7). -/
theorem ofInt_clamp_toNat (x : Int) {lo hi : Nat} (h : lo ≤ hi) (hh : hi ≤ 0xFFFF) :
    ((BitVec.ofInt 16 (clamp x lo hi)).toNat : Int) = clamp x lo hi := by
  have hb := clamp_bounds x (lo := (lo : Int)) (hi := (hi : Int)) (by omega)
  rw [BitVec.toNat_ofInt]
  omega

/-! ### How an operation ends -/

theorem complete_of_wf {s : State} (h : s.cfg.WF) (t : State) : complete s t = .next t := if_pos h

theorem complete_of_not_wf {s : State} (h : ¬ s.cfg.WF) (t : State) : complete s t = .refused .illFormedConfig := if_neg h

/-- An operation answers a next state exactly where the configuration is well-formed, and then the state given. -/
theorem complete_eq_next {s t u : State} : complete s t = .next u ↔ s.cfg.WF ∧ t = u := by
  unfold complete
  split
  · rename_i h; exact ⟨fun e => ⟨h, by injection e⟩, fun e => by rw [e.2]⟩
  · rename_i h; exact ⟨fun e => (by cases e), fun e => absurd e.1 h⟩

theorem completeRow_of_selected (s t : State) : completeRow true s t = complete s t := rfl

/-- A dispatch row answers a next state exactly where it is selected and the configuration is well-formed. -/
theorem completeRow_eq_next {b : Bool} {s t u : State} : completeRow b s t = .next u ↔ b = true ∧ s.cfg.WF ∧ t = u := by
  cases b
  · simp [completeRow]
  · rw [completeRow_of_selected, complete_eq_next]; simp

theorem selectsCal_iff {p : CalPhase} {s : State} : selectsCal p s = true ↔ s.calPhase = p := by simp [selectsCal]

theorem mode_iff {s : State} : mode s = true ↔ s.calPhase = .done := by simp [mode]

theorem selectsCtrl_iff {v : Reg8} {s : State} : selectsCtrl v s = true ↔ s.calPhase = .done ∧ s.ctrlState = v := by
  simp [selectsCtrl, mode]

/-! ### The stream -/

theorem takeOp_nil {s : State} (h : s.ops = []) : takeOp s = none := by simp [takeOp, h]

theorem takeOp_cons {s : State} {w : OpWord} {rest : List OpWord} (h : s.ops = w :: rest) :
    takeOp s = some (w, s.setOps rest) := by simp [takeOp, h]

/-- The word issued next is the word taken next, and the state is as it was. -/
theorem takeOp_issueNext (s : State) (w : OpWord) : takeOp (issueNext s w) = some (w, s) := rfl

/-- What the very next step does once a 24-bit word is placed for it. -/
theorem step_withFetchWord_word (s : State) {w : Nat} (h : w < 0x1000000) :
    step (s.withFetchWord 24 w) = exec (decodeWord (BitVec.ofNat 24 w)) s := by
  simp [State.withFetchWord, tableCode, h, placeCode, step, takeOp_issueNext]

/-! ### Host register accesses and RESET -/

/-- A register write changes DIM_TARGET (address 0) or CTRL_STATE (address 9), and nothing otherwise. -/
theorem hostRegisterWrite_cases (a : Addr) (v : Reg16) (s : State) :
    (a = 0 ∧ hostRegisterWrite a v s = s.setDimTarget v) ∨
    (a = 9 ∧ hostRegisterWrite a v s = s.setCtrlState (forcedState v)) ∨
    (a ≠ 0 ∧ a ≠ 9 ∧ hostRegisterWrite a v s = s) := by
  have ha := a.isLt
  unfold hostRegisterWrite
  split
  · rename_i h; exact .inl ⟨BitVec.eq_of_toNat_eq h, rfl⟩
  · rename_i h; exact .inr (.inl ⟨BitVec.eq_of_toNat_eq h, rfl⟩)
  · rename_i h0 h9
    refine .inr (.inr ⟨?_, ?_, rfl⟩)
    · rintro rfl; exact h0 rfl
    · rintro rfl; exact h9 rfl

/-- A READ changes only what is returned. -/
theorem hostRead_eq (a : Addr) (s : State) : hostRead a s = { s with rdata := some (hostRegister a s) } := rfl

/-- RESET keeps the configuration and the words already issued, and nothing else. -/
theorem resetStep_eq (s : State) : resetStep s = { State.resetOf s.cfg with ops := s.ops } := rfl

end Sys2Proof.Machine
end

