-- ==== Sys2Proof/Laws/PerInstr.lean ====
section
/-!
SUPPORT. Facts about the operations as syntax, proved one constructor at a time.
-/

namespace Sys2Proof

/-- The format a code is written in: the OP field of a word (R57, R63), or the dispatch element (R64, R65). -/
def codeFormat (c : Code) : Format :=
  match c with
  | .word w =>
    if isIllegalWord w then .illegal
    else match (opField w).toNat with
      | 0 => .tick
      | 1 => .write
      | 2 => .read
      | _ => .reset
  | .calPhase _ _ _ _ => .calPhase
  | .ctrlState _ _ => .ctrlState

theorem writeWord_legal (a : Addr) (v : Reg16) : isIllegalWord (writeWord a v) = false ∧ opField (writeWord a v) = 1 := by
  have hop : opField (writeWord a v) = 1 := by
    apply BitVec.eq_of_getLsbD_eq
    intro i hi
    simp only [opField, writeWord, BitVec.getLsbD_extractLsb', BitVec.getLsbD_append, hi]
    interval_cases i <;> simp
  refine ⟨?_, hop⟩
  have hz : writeWord a v &&& 0x300000#24 = 0 := by
    apply BitVec.eq_of_getLsbD_eq
    intro i hi
    simp only [writeWord, BitVec.getLsbD_and, BitVec.getLsbD_append]
    interval_cases i <;> simp
  simp [isIllegalWord, hop, reservedMask, hz]

theorem codeFormat_writeWord (a : Addr) (v : Reg16) : codeFormat (.word (writeWord a v)) = .write := by
  simp [codeFormat, writeWord_legal]

end Sys2Proof

/-- The encoding of a well-formed operation is in the format that spec/opcode_table.json gives its row. -/
def Sys2Proof.Laws.EncodesInItsFormat.Statement (i : Sys2Proof.Instr) : Prop :=
  i.wellFormed = true → Sys2Proof.codeFormat (Sys2Proof.encode i) = i.format

namespace Sys2Proof.Laws.EncodesInItsFormat

theorem tick0 : Statement .tick0 := by
  intro _; decide

theorem tick1 : Statement .tick1 := by
  intro _; decide

theorem wrDimTarget (v : Sys2Proof.Reg16) : Statement (.wrDimTarget v) :=
  fun _ => codeFormat_writeWord 0 v

theorem wrMinDelay (v : Sys2Proof.Reg16) : Statement (.wrMinDelay v) :=
  fun _ => codeFormat_writeWord 1 v

theorem wrMaxDelay (v : Sys2Proof.Reg16) : Statement (.wrMaxDelay v) :=
  fun _ => codeFormat_writeWord 2 v

theorem wrStatus (v : Sys2Proof.Reg16) : Statement (.wrStatus v) :=
  fun _ => codeFormat_writeWord 3 v

theorem wrPhaseCnt (v : Sys2Proof.Reg16) : Statement (.wrPhaseCnt v) :=
  fun _ => codeFormat_writeWord 4 v

theorem wrGuard (v : Sys2Proof.Reg16) : Statement (.wrGuard v) :=
  fun _ => codeFormat_writeWord 5 v

theorem wrCalCnt (v : Sys2Proof.Reg16) : Statement (.wrCalCnt v) :=
  fun _ => codeFormat_writeWord 6 v

theorem wrCalSum (v : Sys2Proof.Reg16) : Statement (.wrCalSum v) :=
  fun _ => codeFormat_writeWord 7 v

theorem wrCalIdx (v : Sys2Proof.Reg16) : Statement (.wrCalIdx v) :=
  fun _ => codeFormat_writeWord 8 v

theorem wrForceState (v : Sys2Proof.Reg16) : Statement (.wrForceState v) :=
  fun _ => codeFormat_writeWord 9 v

theorem wrUnmappedA (v : Sys2Proof.Reg16) : Statement (.wrUnmappedA v) :=
  fun _ => codeFormat_writeWord 10 v

theorem wrUnmappedB (v : Sys2Proof.Reg16) : Statement (.wrUnmappedB v) :=
  fun _ => codeFormat_writeWord 11 v

theorem wrUnmappedC (v : Sys2Proof.Reg16) : Statement (.wrUnmappedC v) :=
  fun _ => codeFormat_writeWord 12 v

theorem wrUnmappedD (v : Sys2Proof.Reg16) : Statement (.wrUnmappedD v) :=
  fun _ => codeFormat_writeWord 13 v

theorem wrUnmappedE (v : Sys2Proof.Reg16) : Statement (.wrUnmappedE v) :=
  fun _ => codeFormat_writeWord 14 v

theorem wrUnmappedF (v : Sys2Proof.Reg16) : Statement (.wrUnmappedF v) :=
  fun _ => codeFormat_writeWord 15 v

theorem rdDimTarget : Statement .rdDimTarget := by
  intro _; decide

theorem rdMinDelay : Statement .rdMinDelay := by
  intro _; decide

theorem rdMaxDelay : Statement .rdMaxDelay := by
  intro _; decide

theorem rdStatus : Statement .rdStatus := by
  intro _; decide

theorem rdPhaseCnt : Statement .rdPhaseCnt := by
  intro _; decide

theorem rdGuard : Statement .rdGuard := by
  intro _; decide

theorem rdCalCnt : Statement .rdCalCnt := by
  intro _; decide

theorem rdCalSum : Statement .rdCalSum := by
  intro _; decide

theorem rdCalIdx : Statement .rdCalIdx := by
  intro _; decide

theorem rdForceState : Statement .rdForceState := by
  intro _; decide

theorem rdUnmappedA : Statement .rdUnmappedA := by
  intro _; decide

theorem rdUnmappedB : Statement .rdUnmappedB := by
  intro _; decide

theorem rdUnmappedC : Statement .rdUnmappedC := by
  intro _; decide

theorem rdUnmappedD : Statement .rdUnmappedD := by
  intro _; decide

theorem rdUnmappedE : Statement .rdUnmappedE := by
  intro _; decide

theorem rdUnmappedF : Statement .rdUnmappedF := by
  intro _; decide

theorem rst : Statement .rst := by
  intro _; decide

theorem calWaitLow1 (z : Bool) : Statement (.calWaitLow1 z) :=
  fun _ => rfl

theorem calWaitHigh (z : Bool) : Statement (.calWaitHigh z) :=
  fun _ => rfl

theorem calWaitLow2 (z : Bool) : Statement (.calWaitLow2 z) :=
  fun _ => rfl

theorem calWaitRef (ev : Bool) : Statement (.calWaitRef ev) :=
  fun _ => rfl

theorem calCollect (ev : Bool) : Statement (.calCollect ev) :=
  fun _ => rfl

theorem calDone (accept : Bool) : Statement (.calDone accept) :=
  fun _ => rfl

theorem pcIdle (accept : Bool) : Statement (.pcIdle accept) :=
  fun _ => rfl

theorem pcOffset : Statement .pcOffset := by
  intro _; decide

theorem pcDelay : Statement .pcDelay := by
  intro _; decide

theorem pcTrigger : Statement .pcTrigger := by
  intro _; decide

theorem pcInvalid04 (low : BitVec 2) : Statement (.pcInvalid04 low) :=
  fun _ => rfl

theorem pcInvalid08 (low : BitVec 3) : Statement (.pcInvalid08 low) :=
  fun _ => rfl

theorem pcInvalid10 (low : BitVec 4) : Statement (.pcInvalid10 low) :=
  fun _ => rfl

theorem pcInvalid20 (low : BitVec 5) : Statement (.pcInvalid20 low) :=
  fun _ => rfl

theorem pcInvalid40 (low : BitVec 6) : Statement (.pcInvalid40 low) :=
  fun _ => rfl

theorem pcInvalid80 (low : BitVec 7) : Statement (.pcInvalid80 low) :=
  fun _ => rfl

theorem illegal (w : Sys2Proof.OpWord) : Statement (.illegal w) := by
  intro h
  show (if isIllegalWord w then _ else _) = _
  exact if_pos h

end Sys2Proof.Laws.EncodesInItsFormat
end

