-- ==== Sys2Proof/Laws/Tick.lean ====
section
/-!
SUPPORT. What the sub-steps of a TICK can do, said once: each phase rule and state rule as its possible results, and the
frames of CalStep and PhaseStep.
-/

namespace Sys2Proof.Machine

/-! ### Phase control -/

/-- DELAY fires, times out or counts (R102). -/
theorem delayStep_cases (s : State) :
    (s.dimTarget.toNat ≤ (inc16 s.phaseCnt).toNat ∧ armed s.cfg s.dimTarget.toNat = true ∧
      delayStep s = { s with gate := true, phaseCnt := 0, ctrlState := ctrlTrigger }) ∨
    (s.cfg.safetyTimeout ≤ (inc16 s.phaseCnt).toNat ∧
      delayStep s = { s with gate := false, phaseCnt := inc16 s.phaseCnt, ctrlState := ctrlIdle }) ∨
    ((inc16 s.phaseCnt).toNat < s.cfg.safetyTimeout ∧
      ¬ (s.dimTarget.toNat ≤ (inc16 s.phaseCnt).toNat ∧ armed s.cfg s.dimTarget.toNat = true) ∧
      delayStep s = { s with phaseCnt := inc16 s.phaseCnt }) := by
  unfold delayStep
  dsimp only
  split
  · rename_i h; exact .inl ⟨h.1, h.2, rfl⟩
  · rename_i h
    split
    · rename_i h'; exact .inr (.inl ⟨h', rfl⟩)
    · rename_i h'; exact .inr (.inr ⟨by omega, h, rfl⟩)

/-- OFFSET goes on to DELAY or counts (R101). -/
theorem offsetStep_cases (s : State) :
    (s.cfg.zcOffset ≤ (inc16 s.phaseCnt).toNat ∧ offsetStep s = { s with phaseCnt := 0, ctrlState := ctrlDelay }) ∨
    ((inc16 s.phaseCnt).toNat < s.cfg.zcOffset ∧ offsetStep s = { s with phaseCnt := inc16 s.phaseCnt }) := by
  unfold offsetStep
  dsimp only
  split
  · rename_i h; exact .inl ⟨h, rfl⟩
  · rename_i h; exact .inr ⟨by omega, rfl⟩

/-- TRIGGER ends the pulse or counts (R103). -/
theorem triggerStep_cases (s : State) :
    (s.cfg.triggerPulseWidth ≤ (inc16 s.phaseCnt).toNat ∧
      triggerStep s = { s with phaseCnt := inc16 s.phaseCnt, gate := false, ctrlState := ctrlIdle }) ∨
    ((inc16 s.phaseCnt).toNat < s.cfg.triggerPulseWidth ∧ triggerStep s = { s with phaseCnt := inc16 s.phaseCnt }) := by
  unfold triggerStep
  dsimp only
  split
  · rename_i h; exact .inl ⟨h, rfl⟩
  · rename_i h; exact .inr ⟨by omega, rfl⟩

/-- PhaseStep runs the one rule its CTRL_STATE selects (R99). -/
theorem phaseStep_cases (acc : Bool) (s : State) :
    (s.ctrlState = 0 ∧ phaseStep acc s = idleStep acc s) ∨ (s.ctrlState = 1 ∧ phaseStep acc s = offsetStep s) ∨
    (s.ctrlState = 2 ∧ phaseStep acc s = delayStep s) ∨ (s.ctrlState = 3 ∧ phaseStep acc s = triggerStep s) ∨
    (4 ≤ s.ctrlState.toNat ∧ phaseStep acc s = invalidStep s) := by
  unfold phaseStep
  split
  · rename_i h; exact .inl ⟨h, rfl⟩
  split
  · rename_i h; exact .inr (.inl ⟨h, rfl⟩)
  split
  · rename_i h; exact .inr (.inr (.inl ⟨h, rfl⟩))
  split
  · rename_i h; exact .inr (.inr (.inr (.inl ⟨h, rfl⟩)))
  · rename_i h0 h1 h2 h3
    refine .inr (.inr (.inr (.inr ⟨?_, rfl⟩)))
    simp only [ctrlIdle, ctrlOffset, ctrlDelay, ctrlTrigger] at h0 h1 h2 h3
    bv_omega

/-- PhaseStep writes CTRL_STATE, PHASE_CNT, GATE and HEARTBEAT only (R99). -/
theorem phaseStep_frame (acc : Bool) (s : State) :
    phaseStep acc s = { s with ctrlState := (phaseStep acc s).ctrlState, phaseCnt := (phaseStep acc s).phaseCnt,
                               gate := (phaseStep acc s).gate, heartbeat := (phaseStep acc s).heartbeat } := by
  rcases phaseStep_cases acc s with ⟨-, h⟩ | ⟨-, h⟩ | ⟨-, h⟩ | ⟨-, h⟩ | ⟨-, h⟩ <;> rw [h]
  · unfold idleStep; split <;> rfl
  · rcases offsetStep_cases s with ⟨-, h⟩ | ⟨-, h⟩ <;> rw [h]
  · rcases delayStep_cases s with ⟨-, -, h⟩ | ⟨-, h⟩ | ⟨-, -, h⟩ <;> rw [h]
  · rcases triggerStep_cases s with ⟨-, h⟩ | ⟨-, h⟩ <;> rw [h]
  · rfl

/-! ### Calibration -/

/-- Taking a valid sample publishes or goes on collecting (R89, R93). -/
theorem takeSample_cases (sample : Nat) (s : State) :
    (s.calIdx.toNat + 1 = s.cfg.calN ∧
      takeSample sample s =
        { s with calSum := narrowCalSum (s.calSum.toNat + sample), calIdx := narrowCalIdx (s.calIdx.toNat + 1),
                 maxDelay := BitVec.ofInt 16 (maxDelayOf s.cfg (avgPeriod s.cfg (s.calSum.toNat + sample))),
                 minDelay := BitVec.ofInt 16 (minDelayOf s.cfg (avgPeriod s.cfg (s.calSum.toNat + sample))),
                 calPhase := .done }) ∨
    (s.calIdx.toNat + 1 ≠ s.cfg.calN ∧
      takeSample sample s =
        { s with calSum := narrowCalSum (s.calSum.toNat + sample), calIdx := narrowCalIdx (s.calIdx.toNat + 1) }) := by
  unfold takeSample
  dsimp only
  split
  · rename_i h; exact .inl ⟨h, rfl⟩
  · rename_i h; exact .inr ⟨h, rfl⟩

/-- COLLECT counts, rejects a sample or takes one (R89). -/
theorem collectStep_cases (ev : Bool) (s : State) :
    (ev = false ∧ collectStep ev s = { s with calCnt := satInc16 s.calCnt }) ∨
    (ev = true ∧ validSample s.cfg (satInc16 s.calCnt).toNat = false ∧ collectStep ev s = { s with calCnt := 0 }) ∨
    (ev = true ∧ validSample s.cfg (satInc16 s.calCnt).toNat = true ∧
      collectStep ev s = takeSample (satInc16 s.calCnt).toNat { s with calCnt := 0 }) := by
  unfold collectStep cnt1
  cases ev
  · exact .inl ⟨rfl, rfl⟩
  · cases h : validSample s.cfg (satInc16 s.calCnt).toNat
    · exact .inr (.inl ⟨rfl, rfl, by simp [h, State.setCalCnt]⟩)
    · exact .inr (.inr ⟨rfl, rfl, by simp [h, State.setCalCnt]⟩)

/-- CalStep writes CAL_PHASE, CAL_CNT, CAL_SUM, CAL_IDX, MIN_DELAY and MAX_DELAY only (R84). -/
theorem calStep_frame (z ev : Bool) (s : State) :
    calStep z ev s =
      { s with calPhase := (calStep z ev s).calPhase, calCnt := (calStep z ev s).calCnt,
               calSum := (calStep z ev s).calSum, calIdx := (calStep z ev s).calIdx,
               minDelay := (calStep z ev s).minDelay, maxDelay := (calStep z ev s).maxDelay } := by
  unfold calStep
  split
  · unfold waitLow1Step; cases z <;> rfl
  · unfold waitHighStep; cases z <;> rfl
  · unfold waitLow2Step; cases z <;> rfl
  · unfold waitRefStep; cases ev <;> rfl
  · rcases collectStep_cases ev s with ⟨-, h⟩ | ⟨-, -, h⟩ | ⟨-, -, h⟩ <;> rw [h]
    rcases takeSample_cases (satInc16 s.calCnt).toNat { s with calCnt := 0 } with ⟨-, h⟩ | ⟨-, h⟩ <;> rw [h]
  · rfl

/-! ### The whole TICK -/

/-- The every-tick updates (R76, R78). -/
theorem edgeStep_eq (z : Bool) (s : State) :
    edgeStep z s = { s with zcPrev := z, guard := if accept z s then 0 else satInc16 s.guard } := rfl

/-- A TICK in CAL mode is one calibration step on the updated state (R70). -/
theorem tick_cal {s : State} (h : s.calPhase ≠ .done) (z : Bool) :
    tick z s = { calStep z (calEvent z s) (edgeStep z s) with rdata := none } := by
  have hm : mode (edgeStep z s) = false := by simpa [mode, edgeStep] using h
  simp [tick, modeDispatch, hm, State.setRdata]

/-- A TICK in RUN mode is one phase-control step on the updated state (R70). -/
theorem tick_run {s : State} (h : s.calPhase = .done) (z : Bool) :
    tick z s = { phaseStep (accept z s) (edgeStep z s) with rdata := none } := by
  have hm : mode (edgeStep z s) = true := by simpa [mode, edgeStep] using h
  simp [tick, modeDispatch, hm, State.setRdata]

end Sys2Proof.Machine
end

