-- ==== Sys2Proof/Tests/Slice0.lean ====
section
/-!
SUPPORT. Tests of the model. Expected results are those of spec/95_test_vectors.md (named by its vector ids), or worked by hand
from the rule cited. The last part holds, for each obligation with hypotheses, a witness that meets them.
-/

namespace Sys2Proof.Tests

open Sys2Proof Sys2Proof.Machine

/-! ### Helpers -/

/-- What an operation leaves, and `none` where it stops. -/
def left (i : Instr) (s : State) : Option State :=
  match exec i s with
  | .next t => some t
  | _ => none

/-- Whether an operation goes on to a state that meets `p`. -/
def leaves (i : Instr) (s : State) (p : State → Bool) : Bool := (left i s).any p

/-- A state of calibration in RC: phase, CAL_CNT, GUARD, CAL_SUM and CAL_IDX, with ZC_PREV 0. -/
def rcCal (p : CalPhase) (cnt guard sum : Reg16) (idx : Reg8) : State :=
  { State.reset with calPhase := p, calCnt := cnt, guard := guard, calSum := sum, calIdx := idx, zcPrev := false }

/-- RUN mode in RC after calibration on P = 166 (X1): CTRL_STATE, PHASE_CNT, DIM_TARGET and GATE, with ZC_PREV 1 and GUARD 5. -/
def rcRun (ctrl : Reg8) (cnt dim : Reg16) (gate : Bool) : State :=
  { State.reset with
    calPhase := .done, calSum := 1328, calIdx := 8, minDelay := 62, maxDelay := 157, guard := 5,
    ctrlState := ctrl, phaseCnt := cnt, dimTarget := dim, gate := gate }

/-- The RESET state of TC. -/
def tcReset : State := State.resetOf Config.tc

/-- A state of calibration in TC while collecting: CAL_CNT with GUARD equal to it, CAL_SUM and CAL_IDX, ZC_PREV 0. -/
def tcCollect (cnt sum : Reg16) (idx : Reg8) : State :=
  { tcReset with calPhase := .collect, calCnt := cnt, guard := cnt, calSum := sum, calIdx := idx, zcPrev := false }

/-- RUN mode in TC after program P1: CTRL_STATE, PHASE_CNT, DIM_TARGET and GATE, with ZC_PREV 0 and GUARD 4, so that a TICK 1
has an accepted edge. -/
def tcRun (ctrl : Reg8) (cnt dim : Reg16) (gate : Bool) : State :=
  { tcReset with
    calPhase := .done, calSum := 12, calIdx := 2, minDelay := 2, maxDelay := 5, guard := 4, zcPrev := false,
    ctrlState := ctrl, phaseCnt := cnt, dimTarget := dim, gate := gate }

/-! ### Decoding: a word of every row, written out from the spec's encodings (95_test_vectors.md 2.1; R58 to R61, R32) -/

theorem test_decode_tick : decodeWord 0x000000 = .tick0 ∧ decodeWord 0x000001 = .tick1 := by decide

theorem test_decode_write :
    decodeWord 0x400064 = .wrDimTarget 0x0064 ∧ decodeWord 0x410007 = .wrMinDelay 7 ∧ decodeWord 0x420000 = .wrMaxDelay 0 ∧
    decodeWord 0x430000 = .wrStatus 0 ∧ decodeWord 0x44ABCD = .wrPhaseCnt 0xABCD ∧ decodeWord 0x451234 = .wrGuard 0x1234 ∧
    decodeWord 0x468001 = .wrCalCnt 0x8001 ∧ decodeWord 0x470530 = .wrCalSum 0x0530 ∧ decodeWord 0x4800FF = .wrCalIdx 0x00FF ∧
    decodeWord 0x491280 = .wrForceState 0x1280 := by decide

theorem test_decode_write_unmapped :
    decodeWord 0x4A0001 = .wrUnmappedA 1 ∧ decodeWord 0x4BFFFF = .wrUnmappedB 0xFFFF ∧ decodeWord 0x4C0005 = .wrUnmappedC 5 ∧
    decodeWord 0x4D8000 = .wrUnmappedD 0x8000 ∧ decodeWord 0x4E0000 = .wrUnmappedE 0 ∧
    decodeWord 0x4F1234 = .wrUnmappedF 0x1234 := by decide

theorem test_decode_read :
    decodeWord 0x800000 = .rdDimTarget ∧ decodeWord 0x810000 = .rdMinDelay ∧ decodeWord 0x820000 = .rdMaxDelay ∧
    decodeWord 0x830000 = .rdStatus ∧ decodeWord 0x840000 = .rdPhaseCnt ∧ decodeWord 0x850000 = .rdGuard ∧
    decodeWord 0x860000 = .rdCalCnt ∧ decodeWord 0x870000 = .rdCalSum ∧ decodeWord 0x880000 = .rdCalIdx ∧
    decodeWord 0x890000 = .rdForceState := by decide

theorem test_decode_read_unmapped :
    decodeWord 0x8A0000 = .rdUnmappedA ∧ decodeWord 0x8B0000 = .rdUnmappedB ∧ decodeWord 0x8C0000 = .rdUnmappedC ∧
    decodeWord 0x8D0000 = .rdUnmappedD ∧ decodeWord 0x8E0000 = .rdUnmappedE ∧ decodeWord 0x8F0000 = .rdUnmappedF := by decide

theorem test_decode_reset : decodeWord 0xC00000 = .rst := by decide

theorem test_decode_illegal :
    decodeWord 0x000002 = .illegal 0x000002 ∧ decodeWord 0x000003 = .illegal 0x000003 ∧
    decodeWord 0x200001 = .illegal 0x200001 ∧ decodeWord 0x700005 = .illegal 0x700005 ∧
    decodeWord 0x500064 = .illegal 0x500064 ∧ decodeWord 0x830001 = .illegal 0x830001 ∧
    decodeWord 0xB30000 = .illegal 0xB30000 ∧ decodeWord 0xC00001 = .illegal 0xC00001 ∧
    decodeWord 0xFFFFFF = .illegal 0xFFFFFF := by decide

theorem test_decode_calPhase :
    decode (.calPhase 0b000 true false false) = .ok (.calWaitLow1 true) ∧
    decode (.calPhase 0b001 true false false) = .ok (.calWaitHigh true) ∧
    decode (.calPhase 0b010 true false false) = .ok (.calWaitLow2 true) ∧
    decode (.calPhase 0b011 false true false) = .ok (.calWaitRef true) ∧
    decode (.calPhase 0b100 false true false) = .ok (.calCollect true) ∧
    decode (.calPhase 0b101 false false true) = .ok (.calDone true) := by decide

theorem test_decode_calPhase_unused :
    decode (.calPhase 0b110 true true true) = .error (.calPhaseUnused 6) ∧
    decode (.calPhase 0b111 false false false) = .error (.calPhaseUnused 7) := by decide

theorem test_decode_ctrlState :
    decode (.ctrlState 0x00 true) = .ok (.pcIdle true) ∧ decode (.ctrlState 0x01 true) = .ok .pcOffset ∧
    decode (.ctrlState 0x02 true) = .ok .pcDelay ∧ decode (.ctrlState 0x03 true) = .ok .pcTrigger := by decide

theorem test_decode_ctrlState_invalid :
    decode (.ctrlState 0x07 false) = .ok (.pcInvalid04 3) ∧ decode (.ctrlState 0x0E false) = .ok (.pcInvalid08 6) ∧
    decode (.ctrlState 0x1F false) = .ok (.pcInvalid10 15) ∧ decode (.ctrlState 0x20 false) = .ok (.pcInvalid20 0) ∧
    decode (.ctrlState 0x7F false) = .ok (.pcInvalid40 63) ∧ decode (.ctrlState 0x80 false) = .ok (.pcInvalid80 0) := by decide

/-- Encoding gives the words of 95_test_vectors.md 2.1. -/
theorem test_encode_words :
    encode .tick1 = .word 0x000001 ∧ encode (.wrDimTarget 100) = .word 0x400064 ∧
    encode (.wrForceState 0x80) = .word 0x490080 ∧ encode .rdStatus = .word 0x830000 ∧ encode .rst = .word 0xC00000 := by
  decide

/-- No word belongs to two rows: two rows differ in a bit that both fix (R66). -/
theorem test_rows_do_not_overlap :
    wordRows.Pairwise (fun a b => a.pattern &&& (a.mask &&& b.mask) ≠ b.pattern &&& (a.mask &&& b.mask)) := by decide

/-- The host's question on a WRITE row, a READ row and the two dispatch formats (log 9). -/
theorem test_decodeTableWord :
    decodeTableWord 24 0x400000 = some (.wrDimTarget 0) ∧ decodeTableWord 24 0x850000 = some .rdGuard ∧
    decodeTableWord 8 0x80 = some (.pcInvalid80 0) ∧ decodeTableWord 3 4 = some (.calCollect false) ∧
    decodeTableWord 24 0x1000000 = none := by decide

/-- A placed word is what the very next step runs, as the first operation after reset. -/
theorem test_withFetchWord :
    (match step (State.reset.withFetchWord 24 0x400064) with
      | .next t => t.dimTarget == 100 && t.ops == []
      | _ => false) = true := by decide

/-! ### Well-formedness: each check refuses an ill-formed term -/

theorem test_wellFormed_illegal :
    (Instr.illegal 0x000001).wellFormed = false ∧ (Instr.illegal 0x400064).wellFormed = false ∧
    (Instr.illegal 0x000003).wellFormed = true ∧ (Instr.wrDimTarget 0xFFFF).wellFormed = true := by decide

/-- RC and TC are well-formed (R7; 95_test_vectors.md 0.1). -/
theorem test_configs_wellFormed : Config.rc.WF ∧ Config.tc.WF := by decide

/-- A Config that breaks one constraint of R7 is ill-formed: CAL_N, the window, the sum, MIN_ZC_PERIOD. -/
theorem test_config_calibration_checks :
    [{ Config.tc with calN := 0 }, { Config.tc with calN := 256 }, { Config.tc with calWinLo := 9 },
     { Config.tc with calN := 1, calWinHi := 0xFFFF }, { Config.tc with calWinHi := 0x8000 },
     { Config.tc with minZcPeriod := 0xFFFF }].all (fun c => !decide c.WF) := by decide

/-- The same for the delay formula and the clamps. -/
theorem test_config_delay_checks :
    [{ Config.tc with nominalPeriod := 0 }, { Config.tc with minBase := 0x20000000 }, { Config.tc with maxMin := 8 },
     { Config.tc with maxMax := 0x10000 }, { Config.tc with minMin := 4 }, { Config.tc with minMax := 0x10000 }].all
      (fun c => !decide c.WF) := by decide

/-- The same for the lengths. -/
theorem test_config_length_checks :
    [{ Config.tc with zcOffset := 0 }, { Config.tc with zcOffset := 0xFFFF }, { Config.tc with triggerPulseWidth := 0 },
     { Config.tc with triggerPulseWidth := 0xFFFF }, { Config.tc with safetyTimeout := 0 },
     { Config.tc with safetyTimeout := 0xFFFF }].all (fun c => !decide c.WF) := by decide

/-- An ill-formed Config is refused (R7, R10). -/
theorem test_illFormed_refused :
    (match exec .tick0 (State.resetOf { Config.tc with calN := 0 }) with
      | .refused .illFormedConfig => true
      | _ => false) = true := by decide

/-! ### One operation, from the spec's vectors -/

/-- E6 and E7: GUARD 140 rejects, GUARD 141 accepts. -/
theorem test_tick1_noise_gate :
    leaves .tick1 { rcRun 0 230 0xFFFF false with zcPrev := false, guard := 140 }
      (fun t => t.zcPrev && t.guard == 141 && t.ctrlState == 0 && !t.heartbeat) ∧
    leaves .tick1 { rcRun 0 230 0xFFFF false with zcPrev := false, guard := 141 }
      (fun t => t.zcPrev && t.guard == 0 && t.ctrlState == 1 && t.phaseCnt == 0 && t.heartbeat) := by decide

/-- K25: the sample that completes calibration; E10 and E3 are the same gate. -/
theorem test_tick1_completes_calibration :
    leaves .tick1 (rcCal .collect 165 165 1162 7)
      (fun t => t.calPhase == .done && t.calSum == 1328 && t.calIdx == 8 && t.minDelay == 62 && t.maxDelay == 157 &&
        t.guard == 0 && t.ctrlState == 0 && statusWord t == 0x004B) := by decide

/-- Z4: the first TICK 0 after reset. -/
theorem test_tick0_from_reset :
    leaves .tick0 State.reset
      (fun t => t.calPhase == .waitHigh && t.calCnt == 1 && t.guard == 1 && !t.zcPrev && statusWord t == 0x0002) := by decide

/-- E9: GUARD saturates; Q29: a forced 0xFF heals. -/
theorem test_tick0_saturates_and_heals :
    leaves .tick0 { rcRun 0xFF 7 0xFFFF true with guard := 0xFFFF, zcPrev := false }
      (fun t => t.guard == 0xFFFF && t.ctrlState == 0 && !t.gate && t.phaseCnt == 7) := by decide

/-- 2.6: WR DIM_TARGET, 100. -/
theorem test_wrDimTarget :
    leaves (.wrDimTarget 100) (rcRun 0 0 0xFFFF false) (fun t => t == { rcRun 0 0 100 false with rdata := none }) := by decide

/-- 2.6: WR FORCE_STATE, 0x1280 uses only v[7:0]. -/
theorem test_wrForceState :
    leaves (.wrForceState 0x1280) { rcRun 0 0 0xFFFF false with guard := 0 }
      (fun t => statusWord t == 0x804B && t.gate == false && t.phaseCnt == 0) := by decide

/-- 2.6: writes of read-only registers change nothing (R116). -/
theorem test_wrReadOnly :
    [Instr.wrMinDelay 7, .wrMaxDelay 0, .wrStatus 0, .wrPhaseCnt 1, .wrGuard 0x1234, .wrCalCnt 9, .wrCalSum 9, .wrCalIdx 9].all
      (fun i => leaves i (rcRun 3 4 100 true) (fun t => t == rcRun 3 4 100 true)) := by decide

/-- 2.6: writes of unmapped addresses change nothing (R117). -/
theorem test_wrUnmapped :
    [Instr.wrUnmappedA 1, .wrUnmappedB 2, .wrUnmappedC 5, .wrUnmappedD 4, .wrUnmappedE 5, .wrUnmappedF 0x1234].all
      (fun i => leaves i (rcRun 3 4 100 true) (fun t => t == rcRun 3 4 100 true)) := by decide

/-- 2.6: what the READs return after X1 (here with GUARD 0 as after tick 1661). -/
theorem test_reads :
    [(Instr.rdDimTarget, (0xFFFF : Reg16)), (.rdMinDelay, 0x003E), (.rdMaxDelay, 0x009D), (.rdStatus, 0x004B), (.rdPhaseCnt, 0),
     (.rdGuard, 0), (.rdCalCnt, 0), (.rdCalSum, 0x0530), (.rdCalIdx, 8), (.rdForceState, 0), (.rdUnmappedA, 0),
     (.rdUnmappedB, 0), (.rdUnmappedC, 0), (.rdUnmappedD, 0), (.rdUnmappedE, 0), (.rdUnmappedF, 0)].all
      (fun p => leaves p.1 { rcRun 0 0 0xFFFF false with guard := 0 } (fun t => t.rdata == some p.2)) := by decide

/-- Counters that differ are read from their own registers (R123 to R125). -/
theorem test_reads_counters :
    leaves .rdPhaseCnt (rcRun 2 230 7 false) (fun t => t.rdata == some 0x00E6) ∧
    leaves .rdGuard (rcRun 2 230 7 false) (fun t => t.rdata == some 5) ∧
    leaves .rdCalCnt (rcCal .collect 9 3 2 1) (fun t => t.rdata == some 9) := by decide

/-- Z2: RST during a pulse gives the RESET state. -/
theorem test_rst : leaves .rst (rcRun 3 4 100 true) (fun t => t == State.reset) := by decide

/-- 2.1: 0x830001 returns 0x0000, and Z5: 0xC00001 is no reset. -/
theorem test_illegal :
    leaves (.illegal 0x830001) (rcRun 3 4 100 true) (fun t => t == { rcRun 3 4 100 true with rdata := some 0 }) ∧
    leaves (.illegal 0xC00001) (rcRun 3 4 100 true) (fun t => t == rcRun 3 4 100 true) := by decide

/-- K1 and K2. -/
theorem test_calWaitLow1 :
    leaves (.calWaitLow1 true) (rcCal .waitLow1 0 0 0 0) (fun t => t.calPhase == .waitLow1 && t.calCnt == 1) ∧
    leaves (.calWaitLow1 false) (rcCal .waitLow1 0 0 0 0) (fun t => t.calPhase == .waitHigh && t.calCnt == 1) := by decide

/-- K3 and K4. -/
theorem test_calWaitHigh :
    leaves (.calWaitHigh false) (rcCal .waitHigh 5 0 0 0) (fun t => t.calPhase == .waitHigh && t.calCnt == 6) ∧
    leaves (.calWaitHigh true) (rcCal .waitHigh 5 0 0 0) (fun t => t.calPhase == .waitLow2 && t.calCnt == 6) := by decide

/-- K5 and K6. -/
theorem test_calWaitLow2 :
    leaves (.calWaitLow2 true) (rcCal .waitLow2 9 0 0 0) (fun t => t.calPhase == .waitLow2 && t.calCnt == 10) ∧
    leaves (.calWaitLow2 false) (rcCal .waitLow2 9 0 0 0) (fun t => t.calPhase == .waitRef && t.calCnt == 10) := by decide

/-- K9 and K7. -/
theorem test_calWaitRef :
    leaves (.calWaitRef true) (rcCal .waitRef 250 0 77 3)
      (fun t => t.calPhase == .collect && t.calCnt == 0 && t.calSum == 0 && t.calIdx == 0) ∧
    leaves (.calWaitRef false) (rcCal .waitRef 250 0 77 3)
      (fun t => t.calPhase == .waitRef && t.calCnt == 251 && t.calSum == 77 && t.calIdx == 3) := by decide

/-- K15 and K16: sample 220 is taken, sample 221 is not. -/
theorem test_calCollect_window :
    leaves (.calCollect true) (rcCal .collect 219 0 0 0) (fun t => t.calCnt == 0 && t.calSum == 220 && t.calIdx == 1) ∧
    leaves (.calCollect true) (rcCal .collect 220 0 0 0) (fun t => t.calCnt == 0 && t.calSum == 0 && t.calIdx == 0) := by decide

/-- K26: publication; and 1335 div 8 = 166, so 62/157 (2.3, averaging). -/
theorem test_calCollect_publishes :
    leaves (.calCollect true) (rcCal .collect 199 0 1400 7)
      (fun t => t.calPhase == .done && t.minDelay == 74 && t.maxDelay == 191 && t.calSum == 1600) ∧
    leaves (.calCollect true) (rcCal .collect 172 0 1162 7) (fun t => t.calSum == 1335 && t.minDelay == 62 && t.maxDelay == 157) := by
  decide

/-- The publication table of 2.3: average, MAX_DELAY, MIN_DELAY. -/
theorem test_publication_table :
    [((100 : Nat), (120 : Int), (50 : Int)), (140, 131, 52), (141, 132, 52), (150, 141, 55), (166, 157, 62), (173, 164, 64),
     (180, 171, 67), (200, 191, 74), (209, 195, 78), (210, 195, 78), (211, 195, 79), (220, 195, 80)].all
      (fun p => maxDelayOf Config.rc p.1 == p.2.1 && minDelayOf Config.rc p.1 == p.2.2) := by decide

/-- CAL.DONE goes on to the CTRL_STATE row: here Q4a. -/
theorem test_calDone : leaves (.calDone false) (rcRun 1 0 100 false) (fun t => t.ctrlState == 1 && t.phaseCnt == 1) := by decide

/-- Q1 and Q3. -/
theorem test_pcIdle :
    leaves (.pcIdle true) (rcRun 0 230 100 false) (fun t => t.ctrlState == 1 && t.phaseCnt == 0 && t.heartbeat) ∧
    leaves (.pcIdle false) (rcRun 0 10 100 false) (fun t => t == rcRun 0 10 100 false) := by decide

/-- Q4a and Q4b. -/
theorem test_pcOffset :
    leaves .pcOffset (rcRun 1 0 100 false) (fun t => t.ctrlState == 1 && t.phaseCnt == 1) ∧
    leaves .pcOffset (rcRun 1 1 100 false) (fun t => t.ctrlState == 2 && t.phaseCnt == 0) := by decide

/-- Q5, Q6, Q7, Q20: the fire test. -/
theorem test_pcDelay_fires :
    leaves .pcDelay (rcRun 2 60 62 false) (fun t => t.ctrlState == 2 && t.phaseCnt == 61 && !t.gate) ∧
    leaves .pcDelay (rcRun 2 61 62 false) (fun t => t.ctrlState == 3 && t.phaseCnt == 0 && t.gate) ∧
    leaves .pcDelay (rcRun 2 0 0 false) (fun t => t.ctrlState == 3 && t.phaseCnt == 0 && t.gate) ∧
    leaves .pcDelay (rcRun 2 230 100 false) (fun t => t.ctrlState == 3 && t.phaseCnt == 0 && t.gate) := by decide

/-- Q13, Q16, Q21, Q17: the timeout, the wrap, and DELAY_EQ_FIRES. -/
theorem test_pcDelay_times_out :
    leaves .pcDelay (rcRun 2 229 230 false) (fun t => t.ctrlState == 0 && t.phaseCnt == 230 && !t.gate) ∧
    leaves .pcDelay (rcRun 2 230 0xFFFF false) (fun t => t.ctrlState == 0 && t.phaseCnt == 231 && !t.gate) ∧
    leaves .pcDelay (rcRun 2 0xFFFF 0xFFFF false) (fun t => t.ctrlState == 2 && t.phaseCnt == 0) ∧
    leaves .pcDelay { rcRun 2 229 230 false with cfg := { Config.rc with delayEqFires := true } }
      (fun t => t.ctrlState == 3 && t.phaseCnt == 0 && t.gate) := by decide

/-- Q24, Q25, Q30. -/
theorem test_pcTrigger :
    leaves .pcTrigger (rcRun 3 8 100 true) (fun t => t.ctrlState == 3 && t.phaseCnt == 9 && t.gate) ∧
    leaves .pcTrigger (rcRun 3 9 100 true) (fun t => t.ctrlState == 0 && t.phaseCnt == 10 && !t.gate) ∧
    leaves .pcTrigger (rcRun 3 10 100 true) (fun t => t.ctrlState == 0 && t.phaseCnt == 11 && !t.gate) := by decide

/-- R104 on a value of each INVALID row (Q27, Q28). -/
theorem test_pcInvalid :
    leaves (.pcInvalid04 0) (rcRun 0x04 7 100 true) (fun t => t == rcRun 0 7 100 false) ∧
    leaves (.pcInvalid08 1) (rcRun 0x09 7 100 true) (fun t => t == rcRun 0 7 100 false) ∧
    leaves (.pcInvalid10 2) (rcRun 0x12 7 100 true) (fun t => t == rcRun 0 7 100 false) ∧
    leaves (.pcInvalid20 3) (rcRun 0x23 7 100 true) (fun t => t == rcRun 0 7 100 false) ∧
    leaves (.pcInvalid40 4) (rcRun 0x44 7 100 true) (fun t => t == rcRun 0 7 100 false) ∧
    leaves (.pcInvalid80 0) (rcRun 0x80 7 100 true) (fun t => t == rcRun 0 7 100 false) := by decide

/-- The STATUS values of 0.2 that the states above show. -/
theorem test_status :
    statusWord State.reset = 0x0040 ∧ statusWord (rcRun 0 0 0 false) = 0x004B ∧
    statusWord { rcRun 3 0 0 true with heartbeat := true } = 0x037B ∧
    statusWord { rcRun 0x80 0 0 false with heartbeat := true, zcPrev := false } = 0x802B := by decide

/-! ### The assembler (R67, R68; 95_test_vectors.md 2.1) -/

theorem test_assemble_text :
    assembleText "WR DIM_TARGET, 100 ; the delay\nRD STATUS\nFORCE 0x80\n\nTICKS 2, 1\n.word 0xC00001\nRST" =
      some [0x400064, 0x830000, 0x490080, 0x000001, 0x000001, 0xC00001, 0xC00000] := by decide

theorem test_assemble_rejects :
    assembleText "TICK 2" = none ∧ assembleText "WR 16, 0" = none ∧ assembleText "WR 0, 0x10000" = none ∧
    assembleText "FORCE 0x100" = none ∧ assembleText "WR NOWHERE, 1" = none := by decide

theorem test_assemble_wave : assemble (.wave 2 1 2) = some [1, 1, 0, 1, 1, 0] := by decide

/-! ### Witnesses: for each obligation with hypotheses, concrete states and operands that meet all of them together -/

/-- An outcome checked to go on to a state that meets `p` does so. -/
theorem next_of_check {o : Host.Outcome State Fault Refusal} {p : State → Prop} [DecidablePred p]
    (h : (match o with | .next t => decide (p t) | _ => false) = true) : ∃ t, o = .next t ∧ p t := by
  cases o with
  | next t => exact ⟨t, rfl, of_decide_eq_true h⟩
  | fault r => cases h
  | refused r => cases h

/-- TC with CAL_N = 0: ill-formed. -/
def badConfig : Config := { Config.tc with calN := 0 }

theorem witness_StepRunsTheNextWord :
    (tcReset.setOps [0x400002]).ops = 0x400002 :: [] ∧ decode (.word 0x400002) = .ok (.wrDimTarget 2) ∧
    (Instr.wrDimTarget 2).wellFormed = true ∧ tcReset.ops = [] := by decide

theorem witness_EveryWordCompletesUnlessConfigIsIllFormed :
    (tcReset.setOps [0xFFFFFF]).ops = 0xFFFFFF :: [] ∧ tcReset.cfg.WF ∧
    ((State.resetOf badConfig).setOps [0xFFFFFF]).ops = 0xFFFFFF :: [] ∧ ¬ (State.resetOf badConfig).cfg.WF := by decide

theorem witness_DecodeOfEncodeIsTheOperation :
    (Instr.illegal 0xFFFFFF).wellFormed = true ∧ (Instr.wrForceState 0xFFFF).wellFormed = true ∧
    (Instr.pcInvalid80 127).wellFormed = true := by decide

theorem witness_DispatchValuesSelectTheirRows : 4 ≤ (0x04 : Reg8).toNat ∧ 4 ≤ (0xFF : Reg8).toNat := by decide

/-- The first two hypotheses of the inner condition at the boundary GUARD = MIN_ZC_PERIOD + 1. -/
theorem witness_TickUpdatesZcPrevAndGuard :
    (tcRun 0 0 2 false).cfg.WF ∧ (tcRun 0 0 2 false).zcPrev = false ∧
    (tcRun 0 0 2 false).cfg.minZcPeriod < (tcRun 0 0 2 false).guard.toNat := by decide

/-- In CAL mode and in RUN mode. -/
theorem witness_TickRunsTheRowItsStateSelects :
    tcReset.cfg.WF ∧ tcReset.calPhase ≠ .done ∧
    decodeCalPhase tcReset.calPhase.code true (calEvent true tcReset) (accept true tcReset) = .ok (.calWaitLow1 true) ∧
    (tcRun 2 0 2 false).cfg.WF ∧ (tcRun 2 0 2 false).calPhase = .done ∧
    Instr.pcDelay = decodeCtrlState (tcRun 2 0 2 false).ctrlState (accept true (tcRun 2 0 2 false)) := by decide

theorem witness_TickRunsOneMachineOnly :
    (∃ t, exec (tickInstr true) (tcCollect 5 6 1) = .next t ∧ (tcCollect 5 6 1).calPhase ≠ .done) ∧
    (∃ t, exec (tickInstr false) (tcRun 3 0 2 true) = .next t ∧ (tcRun 3 0 2 true).calPhase = .done) :=
  ⟨next_of_check (by decide), next_of_check (by decide)⟩

theorem witness_WaitRowsFollowTheRawLevel :
    tcReset.cfg.WF ∧ tcReset.calPhase = .waitLow1 ∧ (tcReset.setCalPhase .waitHigh).calPhase = .waitHigh ∧
    (tcReset.setCalPhase .waitLow2).calPhase = .waitLow2 := by decide

theorem witness_WaitRefTakesTheReferenceEdge :
    (rcCal .waitRef 250 200 77 3).cfg.WF ∧ (rcCal .waitRef 250 200 77 3).calPhase = .waitRef := by decide

/-- At both ends of the window, outside it, before the last sample and at it. -/
theorem witness_CollectMeasuresAndPublishes :
    (tcCollect 7 0 0).cfg.WF ∧ (tcCollect 7 0 0).calPhase = .collect ∧
    [((3 : Reg16), true), (7, true), (2, false), (8, false), (0xFFFF, false)].all
      (fun p => validSample Config.tc (satInc16 (tcCollect p.1 0 0).calCnt).toNat == p.2) ∧
    (tcCollect 7 0 0).calIdx.toNat + 1 ≠ Config.tc.calN ∧ (tcCollect 7 8 1).calIdx.toNat + 1 = Config.tc.calN ∧
    (tcCollect 7 8 1).calSum.toNat + 8 ≤ 0xFFFF := by decide

theorem witness_DoneGoesOnToTheCtrlStateRow : (tcRun 0 0 2 false).cfg.WF ∧ (tcRun 0 0 2 false).calPhase = .done := by decide

theorem witness_IdleTakesAnAcceptedEdge :
    (tcRun 0 7 2 false).cfg.WF ∧ (tcRun 0 7 2 false).calPhase = .done ∧ (tcRun 0 7 2 false).ctrlState = 0x00 := by decide

theorem witness_OffsetCountsToZcOffset :
    (rcRun 1 1 2 false).cfg.WF ∧ (rcRun 1 1 2 false).calPhase = .done ∧ (rcRun 1 1 2 false).ctrlState = 0x01 := by decide

/-- A state that fires (c = D), one that times out (c = SAFETY_TIMEOUT) and one that counts. -/
theorem witness_DelayFiresOrTimesOut :
    (tcRun 2 1 2 false).cfg.WF ∧ (tcRun 2 1 2 false).calPhase = .done ∧ (tcRun 2 1 2 false).ctrlState = 0x02 ∧
    (2 = ((tcRun 2 1 2 false).phaseCnt.toNat + 1) % 0x10000 ∧ (tcRun 2 1 2 false).dimTarget.toNat ≤ 2 ∧
      (tcRun 2 1 2 false).dimTarget.toNat < Config.tc.safetyTimeout) ∧
    (7 = ((tcRun 2 6 7 false).phaseCnt.toNat + 1) % 0x10000 ∧ ¬ (tcRun 2 6 7 false).dimTarget.toNat < Config.tc.safetyTimeout ∧
      ¬ Config.tc.delayEqFires = true ∧ Config.tc.safetyTimeout ≤ 7) ∧
    (6 = ((tcRun 2 5 7 false).phaseCnt.toNat + 1) % 0x10000 ∧ ¬ (tcRun 2 5 7 false).dimTarget.toNat ≤ 6 ∧
      6 < Config.tc.safetyTimeout) := by decide

theorem witness_TriggerHoldsThePulse :
    (tcRun 3 1 2 true).cfg.WF ∧ (tcRun 3 1 2 true).calPhase = .done ∧ (tcRun 3 1 2 true).ctrlState = 0x03 := by decide

/-- The first and the last value of each INVALID row. -/
theorem witness_InvalidStatesHeal :
    (tcRun 0x04 7 2 true).cfg.WF ∧ (tcRun 0x04 7 2 true).calPhase = .done ∧
    (tcRun 0x04 7 2 true).ctrlState = 1#6 ++ (0 : BitVec 2) ∧ (tcRun 0x07 7 2 true).ctrlState = 1#6 ++ (3 : BitVec 2) ∧
    (tcRun 0x08 7 2 true).ctrlState = 1#5 ++ (0 : BitVec 3) ∧ (tcRun 0x0F 7 2 true).ctrlState = 1#5 ++ (7 : BitVec 3) ∧
    (tcRun 0x10 7 2 true).ctrlState = 1#4 ++ (0 : BitVec 4) ∧ (tcRun 0x1F 7 2 true).ctrlState = 1#4 ++ (15 : BitVec 4) ∧
    (tcRun 0x20 7 2 true).ctrlState = 1#3 ++ (0 : BitVec 5) ∧ (tcRun 0x3F 7 2 true).ctrlState = 1#3 ++ (31 : BitVec 5) ∧
    (tcRun 0x40 7 2 true).ctrlState = 1#2 ++ (0 : BitVec 6) ∧ (tcRun 0x7F 7 2 true).ctrlState = 1#2 ++ (63 : BitVec 6) ∧
    (tcRun 0x80 7 2 true).ctrlState = 1#1 ++ (0 : BitVec 7) ∧ (tcRun 0xFF 7 2 true).ctrlState = 1#1 ++ (127 : BitVec 7) := by
  decide

/-- A CAL row that the state does not select; a CTRL_STATE row in CAL mode; one at another CTRL_STATE. -/
theorem witness_UnselectedRowsAreRefused :
    ((Instr.calDone true).format = .calPhase ∧
      ∀ z ev acc, encode (.calDone true) ≠ .calPhase tcReset.calPhase.code z ev acc) ∧
    (Instr.pcDelay.format = .ctrlState ∧ tcReset.calPhase ≠ .done) ∧
    (Instr.pcDelay.format = .ctrlState ∧ ∀ acc, encode .pcDelay ≠ .ctrlState (tcRun 3 0 2 true).ctrlState acc) := by decide

theorem witness_EdgesOutsideIdleAreLost :
    (tcRun 3 1 2 true).cfg.WF ∧ (tcRun 3 1 2 true).calPhase = .done ∧ (tcRun 3 1 2 true).ctrlState ≠ 0x00 ∧
    (tcRun 3 1 2 true).zcPrev = false ∧ (tcRun 3 1 2 true).cfg.minZcPeriod < (tcRun 3 1 2 true).guard.toNat := by decide

/-- WriteDimTargetStoresIt, WriteForceStateSetsCtrlState, ReadsReturnTheirRegisters, RstResetsEveryElement,
IllegalWordsHaveNoEffect and ReadsDisturbNothing ask for a well-formed Config only. -/
theorem witness_wellFormed_config_only : tcReset.cfg.WF ∧ State.reset.cfg.WF := by decide

theorem witness_OtherWritesAreIgnored :
    tcReset.cfg.WF ∧ Instr.wrStatus 0 ∈ [Instr.wrMinDelay 0, .wrMaxDelay 0, .wrStatus 0, .wrPhaseCnt 0, .wrGuard 0,
      .wrCalCnt 0, .wrCalSum 0, .wrCalIdx 0, .wrUnmappedA 0, .wrUnmappedB 0, .wrUnmappedC 0, .wrUnmappedD 0, .wrUnmappedE 0,
      .wrUnmappedF 0] := by decide

theorem witness_NoOperationChangesTheConfiguration : ∃ t, exec .tick1 tcReset = .next t ∧ t.guard = 1 :=
  next_of_check (by decide)

theorem witness_OnlyTheHostChangesDimTarget :
    (∃ t, exec (.wrDimTarget 2) tcReset = .next t ∧ t.dimTarget ≠ tcReset.dimTarget) ∧
    (∃ t, exec .rst (tcRun 0 0 2 false) = .next t ∧ t.dimTarget ≠ (tcRun 0 0 2 false).dimTarget) :=
  ⟨next_of_check (by decide), next_of_check (by decide)⟩

/-- The last sample of P1 (6 after 6), and a RESET after it. -/
theorem witness_OnlyCompletionChangesTheBounds :
    (∃ t, exec .tick1 (tcCollect 5 6 1) = .next t ∧
      (t.minDelay ≠ (tcCollect 5 6 1).minDelay ∨ t.maxDelay ≠ (tcCollect 5 6 1).maxDelay)) ∧
    (∃ t, exec .rst (tcRun 0 0 2 false) = .next t ∧
      (t.minDelay ≠ (tcRun 0 0 2 false).minDelay ∨ t.maxDelay ≠ (tcRun 0 0 2 false).maxDelay)) :=
  ⟨next_of_check (by decide), next_of_check (by decide)⟩

theorem witness_GateRisesOnlyByFiring :
    ∃ t, exec .tick0 (tcRun 2 1 2 false) = .next t ∧ ((tcRun 2 1 2 false).gate = false ∧ t.gate = true) :=
  next_of_check (by decide)

/-- By the TICK, by its two rows, and by RESET. -/
theorem witness_HeartbeatTogglesOnlyOnATakenEdge :
    (∃ t, exec .tick1 (tcRun 0 0 2 false) = .next t ∧ t.heartbeat ≠ (tcRun 0 0 2 false).heartbeat) ∧
    (∃ t, exec (.pcIdle true) (tcRun 0 0 2 false) = .next t ∧ t.heartbeat ≠ (tcRun 0 0 2 false).heartbeat) ∧
    (∃ t, exec (.calDone true) (tcRun 0 0 2 false) = .next t ∧ t.heartbeat ≠ (tcRun 0 0 2 false).heartbeat) ∧
    (∃ t, exec .rst ((tcRun 0 0 2 false).setHeartbeat true) = .next t ∧
      t.heartbeat ≠ ((tcRun 0 0 2 false).setHeartbeat true).heartbeat) :=
  ⟨next_of_check (by decide), next_of_check (by decide), next_of_check (by decide), next_of_check (by decide)⟩

/-- From WAIT_LOW1 and from DONE. -/
theorem witness_CalPhaseOnlyMovesForward :
    (∃ t, exec .tick0 tcReset = .next t ∧ t.calPhase ≠ tcReset.calPhase) ∧ Instr.tick0 ≠ .rst ∧
    (∃ t, exec .tick0 (tcRun 0 0 2 false) = .next t ∧ (tcRun 0 0 2 false).calPhase = .done) :=
  ⟨next_of_check (by decide), by decide, next_of_check (by decide)⟩

theorem witness_InvalidStatesAriseOnlyByForce :
    ∃ t, exec (.wrForceState 0x1204) (tcRun 3 0 2 true) = .next t ∧
      ((tcRun 3 0 2 true).ctrlState.toNat < 4 ∧ 4 ≤ t.ctrlState.toNat) :=
  next_of_check (by decide)

theorem witness_HostOperationsCountNoTick :
    (∃ t, exec (.wrDimTarget 2) tcReset = .next t ∧ (Instr.wrDimTarget 2).format = .write) ∧
    (∃ t, exec .rdGuard tcReset = .next t ∧ Instr.rdGuard.format = .read) ∧
    (∃ t, exec (.illegal 0x000003) tcReset = .next t ∧ (Instr.illegal 0x000003).format = .illegal) :=
  ⟨next_of_check (by decide), next_of_check (by decide), next_of_check (by decide)⟩

/-- Two states that differ in the stream only read alike. -/
theorem witness_ReadsRevealAllState :
    tcReset.cfg.WF ∧ (tcReset.setOps [1]).cfg.WF ∧
    ∀ a : Addr, ∃ v, exec (decodeRead a) tcReset = .next (tcReset.setRdata (some v)) ∧
      exec (decodeRead a) (tcReset.setOps [1]) = .next ((tcReset.setOps [1]).setRdata (some v)) := by
  refine ⟨by decide, by decide, fun a => ⟨hostRegister a tcReset, ?_⟩⟩
  have hread : ∀ s : State, s.cfg.WF → exec (decodeRead a) s = .next (s.setRdata (some (hostRegister a s))) := by
    intro s hs
    have hall : ∀ b : Addr, exec (decodeRead b) s = complete s (hostRead b s) := by
      intro b
      match b with
      | ⟨⟨n, hn⟩⟩ => interval_cases n <;> rfl
    rw [hall, complete_of_wf hs]
    rfl
  refine ⟨hread _ (by decide), ?_⟩
  rw [hread _ (by decide)]
  rfl

/-- A TICK of P1 that takes its last sample. -/
theorem witness_StepKeepsCalibrationInvariant :
    CalInv ((tcCollect 5 6 1).setOps [1]) ∧
    ∃ t, step ((tcCollect 5 6 1).setOps [1]) = .next t ∧ t.calPhase = .done :=
  ⟨by decide, next_of_check (by decide)⟩

theorem witness_UnforcedStepKeepsPhaseInvariant :
    UnforcedInv ((tcRun 2 1 2 false).setOps [0]) ∧
    ((tcRun 2 1 2 false).setOps [0]).ops = 0 :: [] ∧ isForce (decodeWord 0) = false ∧
    ∃ t, step ((tcRun 2 1 2 false).setOps [0]) = .next t ∧ t.gate = true :=
  ⟨by decide, by decide, by decide, next_of_check (by decide)⟩

theorem witness_StepKeepsGuardTrackingCalCnt :
    GuardTracksCalCnt ((tcCollect 5 0 0).setOps [1]) ∧
    ∃ t, step ((tcCollect 5 0 0).setOps [1]) = .next t ∧ t.calPhase = .collect :=
  ⟨by decide, next_of_check (by decide)⟩

theorem witness_InvariantsHoldAfterReset : Config.rc.WF ∧ Config.tc.WF := by decide

/-- RC after X1, which meets both further premises. -/
theorem witness_CalibratedBoundsAreSound :
    CalInv (rcRun 0 0 100 false) ∧ (rcRun 0 0 100 false).calPhase = .done ∧ Config.rc.minMax ≤ Config.rc.maxMin ∧
    Config.rc.maxMax < Config.rc.safetyTimeout ∧ 157 ≤ (rcRun 0 0 100 false).maxDelay.toNat := by decide

/-- The smallest sample of TC, 5 = MIN_ZC_PERIOD + 2. -/
theorem witness_TakenSamplesPassTheNoiseGate :
    CalInv (tcCollect 4 0 0) ∧ GuardTracksCalCnt (tcCollect 4 0 0) ∧ (tcCollect 4 0 0).cfg.calEdgeSource = .accepted ∧
    (tcCollect 4 0 0).calPhase = .collect ∧
    ∃ t, exec (tickInstr true) (tcCollect 4 0 0) = .next t ∧ t.calIdx ≠ (tcCollect 4 0 0).calIdx :=
  ⟨by decide, by decide, by decide, by decide, next_of_check (by decide)⟩

/-- MIN_ZC_PERIOD ticks and a read between. -/
theorem witness_AcceptedEdgesAreSpaced :
    (tcRun 0 0 2 false).cfg.WF ∧ ticksIn [0x000000, 0x830000, 0x000001, 0x000000] ≤ (tcRun 0 0 2 false).cfg.minZcPeriod ∧
    (tcRun 0 0 2 false).zcPrev = false ∧ (tcRun 0 0 2 false).cfg.minZcPeriod < (tcRun 0 0 2 false).guard.toNat := by decide

/-- One tick from saturation. -/
theorem witness_GuardCountsAndSaturates :
    ((tcRun 0 0 2 false).setGuard 0xFFFE).cfg.WF ∧ ([(0x000000 : OpWord)].all fun w => !isRst (decodeWord w)) = true ∧
    countDuring acceptsAt [0x000000] ((tcRun 0 0 2 false).setGuard 0xFFFE) = 0 ∧
    0xFFFF ≤ ((tcRun 0 0 2 false).setGuard 0xFFFE).guard.toNat + ticksIn [0x000000] ∧
    ∃ t, runWords [0x000000] ((tcRun 0 0 2 false).setGuard 0xFFFE) = .next t ∧ t.zcPrev = false :=
  ⟨by decide, by decide, by decide, by decide, next_of_check (by decide)⟩

theorem witness_CalibrationStallsWithoutEdges :
    tcReset.cfg.WF ∧ tcReset.calPhase ≠ .done ∧ countDuring risesAt [0x000001, 0x000000, 0xC00000, 0x000000] tcReset = 0 := by
  decide

/-- P1: h = l = 3 in TC, at tick 13 = 2P + 1 (the reference edge) and at the last tick, 25. -/
theorem witness_CleanSquareInputCalibrates :
    Config.tc.WF ∧ 1 ≤ 3 ∧ 6 = 3 + 3 ∧ Config.tc.calWinLo ≤ 6 ∧ 6 ≤ Config.tc.calWinHi ∧ Config.tc.zcIdleLevel = true ∧
    (Config.tc.calEdgeSource = .accepted → Config.tc.minZcPeriod + 2 ≤ 6) ∧ 13 ≤ (Config.tc.calN + 2) * 6 + 1 ∧
    2 * 6 + 1 ≤ 13 ∧ 25 ≤ (Config.tc.calN + 2) * 6 + 1 ∧ 2 * 6 + 1 ≤ 25 ∧ 25 = (Config.tc.calN + 2) * 6 + 1 := by decide

/-- One tick before the fire and at it (D = 2: 1 + 2 ticks), with a read between. -/
theorem witness_ArmedCycleFiresOnTime :
    (tcRun 0 0 2 false).cfg.WF ∧ (tcRun 0 0 2 false).calPhase = .done ∧ (tcRun 0 0 2 false).ctrlState = 0x00 ∧
    (tcRun 0 0 2 false).zcPrev = false ∧ (tcRun 0 0 2 false).cfg.minZcPeriod < (tcRun 0 0 2 false).guard.toNat ∧
    armed (tcRun 0 0 2 false).cfg (tcRun 0 0 2 false).dimTarget.toNat = true ∧
    undisturbedConstantDim [0x000001, 0x830000, 0x000000] = true ∧
    ticksIn [0x000001, 0x830000, 0x000000] < Config.tc.zcOffset + max 2 1 ∧
    undisturbedConstantDim [0x000001, 0x830000, 0x000000, 0x000000] = true ∧
    ticksIn [0x000001, 0x830000, 0x000000, 0x000000] = Config.tc.zcOffset + max 2 1 := by decide

/-- One tick before the end and at it, with a DIM_TARGET write between. -/
theorem witness_PulseLastsItsWidth :
    (tcRun 3 0 2 true).cfg.WF ∧ (tcRun 3 0 2 true).calPhase = .done ∧ (tcRun 3 0 2 true).ctrlState = 0x03 ∧
    (tcRun 3 0 2 true).phaseCnt = 0 ∧ (tcRun 3 0 2 true).gate = true ∧ undisturbed [0x000001, 0x400005] = true ∧
    ticksIn [0x000001, 0x400005] < Config.tc.triggerPulseWidth ∧ undisturbed [0x000001, 0x400005, 0x000000] = true ∧
    ticksIn [0x000001, 0x400005, 0x000000] = Config.tc.triggerPulseWidth := by decide

/-- At the boundary D = SAFETY_TIMEOUT = 7: one tick before the timeout and at it. -/
theorem witness_OffCycleTimesOut :
    (tcRun 0 0 7 false).cfg.WF ∧ (tcRun 0 0 7 false).calPhase = .done ∧ (tcRun 0 0 7 false).ctrlState = 0x00 ∧
    (tcRun 0 0 7 false).zcPrev = false ∧
    (tcRun 0 0 7 false).cfg.minZcPeriod < (tcRun 0 0 7 false).guard.toNat ∧
    armed (tcRun 0 0 7 false).cfg (tcRun 0 0 7 false).dimTarget.toNat = false ∧
    undisturbedConstantDim (ticks 7 true) = true ∧ ticksIn (ticks 7 true) < Config.tc.zcOffset + Config.tc.safetyTimeout ∧
    undisturbedConstantDim (ticks 8 true) = true ∧ ticksIn (ticks 8 true) = Config.tc.zcOffset + Config.tc.safetyTimeout := by
  decide

/-- Both ends of the range of ticks: none, and the whole cycle (L = 5). -/
theorem witness_CycleTakesNoOtherEdge :
    (tcRun 0 0 2 false).cfg.WF ∧ (tcRun 0 0 2 false).calPhase = .done ∧ (tcRun 0 0 2 false).ctrlState = 0x00 ∧
    (tcRun 0 0 2 false).zcPrev = false ∧ (tcRun 0 0 2 false).cfg.minZcPeriod < (tcRun 0 0 2 false).guard.toNat ∧
    undisturbedConstantDim [] = true ∧ ticksIn [] ≤ cycleTicks Config.tc 2 ∧
    undisturbedConstantDim (ticks 5 true) = true ∧ ticksIn (ticks 5 true) = cycleTicks Config.tc 2 := by decide

/-- TRIGGER_PULSE_WIDTH = 2 ticks from a fire; 1 + 7 + 2 ticks from an OFFSET. -/
theorem witness_UnforcedRunsReleaseTheGate :
    UnforcedInv (tcRun 3 0 2 true) ∧ unforced (ticks 2 true) = true ∧ Config.tc.triggerPulseWidth ≤ ticksIn (ticks 2 true) ∧
    UnforcedInv (tcRun 1 0 0xFFFF false) ∧ unforced (ticks 10 true) = true ∧
    Config.tc.zcOffset + Config.tc.safetyTimeout + Config.tc.triggerPulseWidth ≤ ticksIn (ticks 10 true) :=
  ⟨by decide, by decide, by decide, by decide, by decide, by decide⟩

/-- The smallest and the largest invalid value. -/
theorem witness_ForcedInvalidStateHealsInOneTick :
    (tcRun 3 0 2 true).cfg.WF ∧ (tcRun 3 0 2 true).calPhase = .done ∧ 4 ≤ ((0x0004 : Reg16).extractLsb' 0 8).toNat ∧
    4 ≤ ((0x12FF : Reg16).extractLsb' 0 8).toNat := by decide

theorem witness_ForcedIdleKeepsTheGate :
    (tcRun 0 0 2 true).cfg.WF ∧ (tcRun 0 0 2 true).calPhase = .done ∧ (tcRun 0 0 2 true).ctrlState = 0x00 ∧
    (tcRun 0 0 2 true).gate = true ∧ undisturbed [0x000000, 0x400001, 0x000000] = true ∧
    countDuring acceptsAt [0x000000, 0x400001, 0x000000] (tcRun 0 0 2 true) = 0 := by decide

/-- In CAL mode, and in RUN mode outside DELAY. -/
theorem witness_DimWriteCommutesWithOtherTicks :
    (tcRun 1 0 2 false).cfg.WF ∧ ¬ ((tcRun 1 0 2 false).calPhase = .done ∧ (tcRun 1 0 2 false).ctrlState = 0x02) ∧
    tcReset.cfg.WF ∧ ¬ (tcReset.calPhase = .done ∧ tcReset.ctrlState = 0x02) := by decide

theorem witness_AssemblerGivesTheWords : (("FORCE_STATE", (9 : Addr)) : String × Addr) ∈ registerNames := by decide

end Sys2Proof.Tests
end

section
/-! The arithmetic primitives of spec/00_scope.md R10 on every value. -/

namespace Sys2Proof.Machine

/-- On every value, where `inc16_toNat_of_lt` leaves out the wrap from 0xFFFF to 0. -/
theorem inc16_toNat (v : Reg16) : (inc16 v).toNat = (v.toNat + 1) % 0x10000 := by
  unfold inc16; rw [BitVec.toNat_ofNat, Nat.mod_mod]

/-- R10's three cases of `clamp`, the lower bound tested first. -/
theorem clamp_eq (x lo hi : Int) : clamp x lo hi = if x < lo then lo else if x > hi then hi else x := rfl

/-- Settles O9: each primitive by its own lemma; `sat_inc16`, a minimum there, by the two sides of 0xFFFF. -/
theorem primitivesAreThoseOfR10 : Obligations.PrimitivesAreThoseOfR10 := by
  refine ⟨fun v => ?_, inc16_toNat, clamp_eq⟩
  rw [satInc16_toNat]
  split
  case isTrue below => exact min_eq_right below
  case isFalse top => exact min_eq_left (by omega)

end Sys2Proof.Machine
end

section
/-!
Family 10_state.md: what one operation can do to the state, said once as an inversion of `exec`, and the statements about
who writes each element (R15 to R30), about STATUS (R31, R33) and about the invariants (R36 to R40) derived from it.
-/

namespace Sys2Proof.Machine

/-! ### STATUS -/

theorem statusWord_ctrlState (s : State) : (statusWord s).extractLsb' 8 8 = s.ctrlState := by
  apply BitVec.eq_of_getLsbD_eq
  intro i hi
  simp only [statusWord, BitVec.getLsbD_extractLsb', BitVec.getLsbD_append]
  interval_cases i <;> simp

theorem statusWord_calPhase (s : State) : (statusWord s).extractLsb' 1 3 = s.calPhase.code := by
  apply BitVec.eq_of_getLsbD_eq
  intro i hi
  simp only [statusWord, BitVec.getLsbD_extractLsb', BitVec.getLsbD_append]
  interval_cases i <;> simp

/-- The single bits of STATUS, from the reserved bit 7 down to MODE. -/
theorem statusWord_bits (s : State) :
    (statusWord s).getLsbD 7 = false ∧ (statusWord s).getLsbD 6 = s.zcPrev ∧ (statusWord s).getLsbD 5 = s.heartbeat ∧
    (statusWord s).getLsbD 4 = s.gate ∧ (statusWord s).getLsbD 0 = mode s := by
  simp only [statusWord, BitVec.getLsbD_append]
  simp

/-- Settles O10: each field of STATUS by the lemma that reads it back, and each output line by its field. -/
theorem statusHoldsItsFields : Obligations.StatusHoldsItsFields := by
  intro s
  obtain ⟨hzero, hzc, hheartbeat, hgate, hmode⟩ := statusWord_bits s
  exact ⟨statusWord_ctrlState s, hzero, hzc, hheartbeat, hgate, statusWord_calPhase s, by rw [hmode, mode_iff],
    hgate.symm, hheartbeat.symm, hmode.symm⟩

/-! ### What a calibration step can do -/

/-- The moves of the calibration sequencer (R84 to R93): CAL_CNT counts or restarts and nothing else changes, a wait goes on
to the next wait, WAIT_REF takes the reference edge, COLLECT takes a sample, or the last sample publishes the bounds. -/
inductive CalMove (ev : Bool) (s : State) : State → Prop
  | count (c : Reg16) : CalMove ev s { s with calCnt := c }
  | advance (p : CalPhase) (hnext : p.code.toNat = s.calPhase.code.toNat + 1) (hwait : p.code.toNat ≤ 3) :
      CalMove ev s { s with calCnt := satInc16 s.calCnt, calPhase := p }
  | reference (hs : s.calPhase = .waitRef) (hev : ev = true) :
      CalMove ev s { s with calCnt := 0, calSum := 0, calIdx := 0, calPhase := .collect }
  | sample (n : Nat) (hs : s.calPhase = .collect) (hev : ev = true) (hvalid : validSample s.cfg n = true)
      (hmore : s.calIdx.toNat + 1 ≠ s.cfg.calN) :
      CalMove ev s { s with calCnt := 0, calSum := narrowCalSum (s.calSum.toNat + n),
                            calIdx := narrowCalIdx (s.calIdx.toNat + 1) }
  | publish (n : Nat) (hs : s.calPhase = .collect) (hev : ev = true) (hvalid : validSample s.cfg n = true)
      (hlast : s.calIdx.toNat + 1 = s.cfg.calN) :
      CalMove ev s { s with calCnt := 0, calSum := narrowCalSum (s.calSum.toNat + n),
                            calIdx := narrowCalIdx (s.calIdx.toNat + 1),
                            maxDelay := BitVec.ofInt 16 (maxDelayOf s.cfg (avgPeriod s.cfg (s.calSum.toNat + n))),
                            minDelay := BitVec.ofInt 16 (minDelayOf s.cfg (avgPeriod s.cfg (s.calSum.toNat + n))),
                            calPhase := .done }

theorem collectStep_move {s : State} (ev : Bool) (hs : s.calPhase = .collect) : CalMove ev s (collectStep ev s) := by
  rcases collectStep_cases ev s with ⟨-, h⟩ | ⟨-, -, h⟩ | ⟨hev, hvalid, h⟩ <;> rw [h]
  · exact .count _
  · exact .count _
  · rcases takeSample_cases (satInc16 s.calCnt).toNat { s with calCnt := 0 } with ⟨hlast, h⟩ | ⟨hmore, h⟩ <;> rw [h]
    · exact .publish _ hs hev hvalid hlast
    · exact .sample _ hs hev hvalid hmore

theorem calStep_waitLow1 {s : State} (hs : s.calPhase = .waitLow1) (z ev : Bool) : calStep z ev s = waitLow1Step z s := by
  simp only [calStep, hs]

theorem calStep_waitHigh {s : State} (hs : s.calPhase = .waitHigh) (z ev : Bool) : calStep z ev s = waitHighStep z s := by
  simp only [calStep, hs]

theorem calStep_waitLow2 {s : State} (hs : s.calPhase = .waitLow2) (z ev : Bool) : calStep z ev s = waitLow2Step z s := by
  simp only [calStep, hs]

theorem calStep_waitRef {s : State} (hs : s.calPhase = .waitRef) (z ev : Bool) : calStep z ev s = waitRefStep ev s := by
  simp only [calStep, hs]

theorem calStep_collect {s : State} (hs : s.calPhase = .collect) (z ev : Bool) : calStep z ev s = collectStep ev s := by
  simp only [calStep, hs]

theorem calStep_done {s : State} (hs : s.calPhase = .done) (z ev : Bool) : calStep z ev s = s := by
  simp only [calStep, hs]

/-- Every calibration step is one of the moves. -/
theorem calStep_move (z ev : Bool) (s : State) : CalMove ev s (calStep z ev s) := by
  cases hs : s.calPhase with
  | waitLow1 =>
    rw [calStep_waitLow1 hs]
    cases z
    · exact .advance .waitHigh (by rw [hs]; rfl) (by decide)
    · exact .count _
  | waitHigh =>
    rw [calStep_waitHigh hs]
    cases z
    · exact .count _
    · exact .advance .waitLow2 (by rw [hs]; rfl) (by decide)
  | waitLow2 =>
    rw [calStep_waitLow2 hs]
    cases z
    · exact .advance .waitRef (by rw [hs]; rfl) (by decide)
    · exact .count _
  | waitRef =>
    rw [calStep_waitRef hs]
    cases ev
    · exact .count _
    · exact .reference hs rfl
  | collect => rw [calStep_collect hs]; exact collectStep_move ev hs
  | done => rw [calStep_done hs]; exact .count s.calCnt

/-- The phase stays or is the next one (R84). -/
theorem calMove_phase {ev : Bool} {s t : State} (h : CalMove ev s t) :
    s.calPhase.code.toNat ≤ t.calPhase.code.toNat ∧ t.calPhase.code.toNat ≤ s.calPhase.code.toNat + 1 := by
  cases h with
  | count | sample => exact ⟨le_refl _, Nat.le_succ _⟩
  | advance p hnext => exact ⟨by simp only [hnext]; omega, by simp only [hnext]; omega⟩
  | reference hs | publish _ hs => simp [hs, CalPhase.code]

/-- The bounds change only by publication (R93). -/
theorem calMove_bounds {ev : Bool} {s t : State} (h : CalMove ev s t)
    (hne : t.minDelay ≠ s.minDelay ∨ t.maxDelay ≠ s.maxDelay) :
    s.calPhase = .collect ∧ t.calPhase = .done ∧ ev = true := by
  cases h with
  | count | advance | reference | sample => simp at hne
  | publish _ hs hev => exact ⟨hs, rfl, hev⟩

/-! ### What a phase-control step can do -/

/-- IDLE takes the accepted edge or does nothing (R100). -/
theorem idleStep_cases (acc : Bool) (s : State) :
    (acc = true ∧ idleStep acc s = { s with phaseCnt := 0, heartbeat := !s.heartbeat, ctrlState := ctrlOffset }) ∨
    (acc = false ∧ idleStep acc s = s) := by
  cases acc
  · exact .inr ⟨rfl, rfl⟩
  · exact .inl ⟨rfl, rfl⟩

theorem phaseStep_idle {s : State} (hs : s.ctrlState = 0) (acc : Bool) : phaseStep acc s = idleStep acc s :=
  if_pos hs

theorem phaseStep_offset {s : State} (hs : s.ctrlState = 1) (acc : Bool) : phaseStep acc s = offsetStep s := by
  simp [phaseStep, hs, ctrlIdle, ctrlOffset]

theorem phaseStep_delay {s : State} (hs : s.ctrlState = 2) (acc : Bool) : phaseStep acc s = delayStep s := by
  simp [phaseStep, hs, ctrlIdle, ctrlOffset, ctrlDelay]

theorem phaseStep_trigger {s : State} (hs : s.ctrlState = 3) (acc : Bool) : phaseStep acc s = triggerStep s := by
  simp [phaseStep, hs, ctrlIdle, ctrlOffset, ctrlDelay, ctrlTrigger]

theorem phaseStep_invalid {s : State} (h : 4 ≤ s.ctrlState.toNat) (acc : Bool) : phaseStep acc s = invalidStep s := by
  rcases phaseStep_cases acc s with ⟨hs, -⟩ | ⟨hs, -⟩ | ⟨hs, -⟩ | ⟨hs, -⟩ | ⟨-, heq⟩
  case inr.inr.inr.inr => exact heq
  all_goals rw [hs] at h; exact absurd h (by decide)

/-- GATE rises only where DELAY fires on an armed DIM_TARGET (R102). -/
theorem phaseStep_gate_rises {acc : Bool} {s : State} (hlow : s.gate = false) (hhigh : (phaseStep acc s).gate = true) :
    s.ctrlState = 2 ∧ armed s.cfg s.dimTarget.toNat = true ∧
      (phaseStep acc s).ctrlState = 3 ∧ (phaseStep acc s).phaseCnt = 0 := by
  rcases phaseStep_cases acc s with ⟨-, h⟩ | ⟨-, h⟩ | ⟨hs, h⟩ | ⟨-, h⟩ | ⟨-, h⟩ <;> rw [h] at hhigh ⊢
  · rcases idleStep_cases acc s with ⟨-, h⟩ | ⟨-, h⟩ <;> simp [h, hlow] at hhigh
  · rcases offsetStep_cases s with ⟨-, h⟩ | ⟨-, h⟩ <;> simp [h, hlow] at hhigh
  · rcases delayStep_cases s with ⟨-, harmed, h⟩ | ⟨-, h⟩ | ⟨-, -, h⟩
    · rw [h]; exact ⟨hs, harmed, rfl, rfl⟩
    · simp [h] at hhigh
    · simp [h, hlow] at hhigh
  · rcases triggerStep_cases s with ⟨-, h⟩ | ⟨-, h⟩ <;> simp [h, hlow] at hhigh
  · simp [invalidStep] at hhigh

/-- HEARTBEAT toggles only where IDLE takes an accepted edge (R100). -/
theorem phaseStep_heartbeat_ne {acc : Bool} {s : State} (hne : (phaseStep acc s).heartbeat ≠ s.heartbeat) :
    s.ctrlState = 0 ∧ acc = true ∧ (phaseStep acc s).ctrlState = 1 ∧ (phaseStep acc s).phaseCnt = 0 := by
  rcases phaseStep_cases acc s with ⟨hs, h⟩ | ⟨-, h⟩ | ⟨-, h⟩ | ⟨-, h⟩ | ⟨-, h⟩ <;> rw [h] at hne ⊢
  · rcases idleStep_cases acc s with ⟨hacc, h⟩ | ⟨-, h⟩
    · rw [h]; exact ⟨hs, hacc, rfl, rfl⟩
    · simp [h] at hne
  · rcases offsetStep_cases s with ⟨-, h⟩ | ⟨-, h⟩ <;> simp [h] at hne
  · rcases delayStep_cases s with ⟨-, -, h⟩ | ⟨-, h⟩ | ⟨-, -, h⟩ <;> simp [h] at hne
  · rcases triggerStep_cases s with ⟨-, h⟩ | ⟨-, h⟩ <;> simp [h] at hne
  · simp [invalidStep] at hne

/-- Every state rule leaves a valid CTRL_STATE (R99 to R104). -/
theorem phaseStep_ctrlState_lt (acc : Bool) (s : State) : (phaseStep acc s).ctrlState.toNat < 4 := by
  rcases phaseStep_cases acc s with ⟨hs, h⟩ | ⟨hs, h⟩ | ⟨hs, h⟩ | ⟨hs, h⟩ | ⟨-, h⟩ <;> rw [h]
  · rcases idleStep_cases acc s with ⟨-, h⟩ | ⟨-, h⟩ <;> simp [h, hs, ctrlOffset]
  · rcases offsetStep_cases s with ⟨-, h⟩ | ⟨-, h⟩ <;> simp [h, hs, ctrlDelay]
  · rcases delayStep_cases s with ⟨-, -, h⟩ | ⟨-, h⟩ | ⟨-, -, h⟩ <;> simp [h, hs, ctrlTrigger, ctrlIdle]
  · rcases triggerStep_cases s with ⟨-, h⟩ | ⟨-, h⟩ <;> simp [h, hs, ctrlIdle]
  · simp [invalidStep, ctrlIdle]

/-! ### What an operation can do -/

/-- How operation `i` comes to run a calibration step: as a TICK, with the signals of the pre-tick state and the every-tick
updates `b` of ZC_PREV and `g` of GUARD, or as the row that CAL_PHASE selects, which leaves both (R66, R70). -/
def RunsCalStep (i : Instr) (s : State) (z ev b : Bool) (g : Reg16) : Prop :=
  (i = tickInstr z ∧ ev = calEvent z s ∧ b = z ∧ g = if accept z s then 0 else satInc16 s.guard) ∨
  (decodeCalPhase s.calPhase.code z ev false = .ok i ∧ b = s.zcPrev ∧ g = s.guard)

/-- The same for a phase-control step; the row is CAL.DONE or the one that CTRL_STATE selects. -/
def RunsPhaseStep (i : Instr) (s : State) (acc b : Bool) (g : Reg16) : Prop :=
  (∃ z, i = tickInstr z ∧ acc = accept z s ∧ b = z ∧ g = if accept z s then 0 else satInc16 s.guard) ∨
  ((i = .calDone acc ∨ i = decodeCtrlState s.ctrlState acc) ∧ b = s.zcPrev ∧ g = s.guard)

/-- What operation `i` can do to `s`: nothing but return `r`, a WRITE of one of the two writable elements, RESET, or one step
of one of the two machines. What a step returns is left open. -/
inductive Effect (i : Instr) (s : State) : State → Prop
  | returns (r : Option Reg16) : Effect i s { s with rdata := r }
  | writesDimTarget (v : Reg16) (hi : i = .wrDimTarget v) : Effect i s { s with dimTarget := v, rdata := none }
  | writesForceState (v : Reg16) (hi : i = .wrForceState v) :
      Effect i s { s with ctrlState := forcedState v, rdata := none }
  | resets (hi : i = .rst) : Effect i s { State.resetOf s.cfg with ops := s.ops }
  | calibrates (z ev b : Bool) (g : Reg16) (r : Option Reg16) (hcal : s.calPhase ≠ .done)
      (hrun : RunsCalStep i s z ev b g) :
      Effect i s { calStep z ev { s with zcPrev := b, guard := g } with rdata := r }
  | controls (acc b : Bool) (g : Reg16) (r : Option Reg16) (hdone : s.calPhase = .done)
      (hrun : RunsPhaseStep i s acc b g) :
      Effect i s { phaseStep acc { s with zcPrev := b, guard := g } with rdata := r }

section
variable {i : Instr} {s t x : State}

theorem effect_of_tick {z : Bool} (h : complete s (tick z s) = .next t) : Effect (tickInstr z) s t := by
  obtain ⟨-, rfl⟩ := complete_eq_next.mp h
  by_cases hp : s.calPhase = .done
  · rw [tick_run hp]
    exact .controls _ _ _ _ hp (.inl ⟨z, rfl, rfl, rfl, rfl⟩)
  · rw [tick_cal hp]
    exact .calibrates _ _ _ _ _ hp (.inl ⟨rfl, rfl, rfl, rfl⟩)

theorem effect_of_read {a : Addr} (h : complete s (hostRead a s) = .next t) : Effect i s t := by
  obtain ⟨-, rfl⟩ := complete_eq_next.mp h
  exact .returns _

theorem effect_of_ignoredWrite {a : Addr} {v : Reg16} (h : complete s (hostWrite a v s) = .next t)
    (h0 : a ≠ 0) (h9 : a ≠ 9) : Effect i s t := by
  obtain ⟨-, rfl⟩ := complete_eq_next.mp h
  rcases hostRegisterWrite_cases a v s with ⟨ha, -⟩ | ⟨ha, -⟩ | ⟨-, -, hw⟩
  · exact absurd ha h0
  · exact absurd ha h9
  · rw [hostWrite, hw]; exact .returns none

theorem effect_of_calRow {p : CalPhase} {z ev : Bool} (h : completeRow (selectsCal p s) s x = .next t)
    (hp : p ≠ .done) (hi : decodeCalPhase p.code z ev false = .ok i) (hx : s.calPhase = p → x = calStep z ev s) :
    Effect i s t := by
  obtain ⟨hsel, -, rfl⟩ := completeRow_eq_next.mp h
  have hs := selectsCal_iff.mp hsel
  rw [hx hs]
  exact .calibrates z ev s.zcPrev s.guard _ (hs ▸ hp) (.inr ⟨hs ▸ hi, rfl, rfl⟩)

theorem effect_of_ctrlRow {v : Reg8} {acc : Bool} (h : completeRow (selectsCtrl v s) s x = .next t)
    (hi : i = decodeCtrlState v acc) (hx : s.ctrlState = v → x = phaseStep acc s) : Effect i s t := by
  obtain ⟨hsel, -, rfl⟩ := completeRow_eq_next.mp h
  obtain ⟨hdone, hs⟩ := selectsCtrl_iff.mp hsel
  rw [hx hs]
  exact .controls acc s.zcPrev s.guard _ hdone (.inr ⟨.inr (hs ▸ hi), rfl, rfl⟩)

theorem effect_of_invalidRow {v : Reg8} (h : completeRow (selectsCtrl v s) s (invalidStep s) = .next t)
    (hi : i = decodeCtrlState v false ∧ 4 ≤ v.toNat) : Effect i s t :=
  effect_of_ctrlRow h hi.1 fun hs => (phaseStep_invalid (hs ▸ hi.2) false).symm

end

/-! An INVALID row is the one that its own match and free bits select (R66). -/

theorem decode_invalid04 (low : BitVec 2) :
    .pcInvalid04 low = decodeCtrlState (1#6 ++ low) false ∧ 4 ≤ (1#6 ++ low).toNat := by
  revert low; decide

theorem decode_invalid08 (low : BitVec 3) :
    .pcInvalid08 low = decodeCtrlState (1#5 ++ low) false ∧ 4 ≤ (1#5 ++ low).toNat := by
  revert low; decide

theorem decode_invalid10 (low : BitVec 4) :
    .pcInvalid10 low = decodeCtrlState (1#4 ++ low) false ∧ 4 ≤ (1#4 ++ low).toNat := by
  revert low; decide

theorem decode_invalid20 (low : BitVec 5) :
    .pcInvalid20 low = decodeCtrlState (1#3 ++ low) false ∧ 4 ≤ (1#3 ++ low).toNat := by
  revert low; decide

theorem decode_invalid40 (low : BitVec 6) :
    .pcInvalid40 low = decodeCtrlState (1#2 ++ low) false ∧ 4 ≤ (1#2 ++ low).toNat := by
  revert low; decide

theorem decode_invalid80 (low : BitVec 7) :
    .pcInvalid80 low = decodeCtrlState (1#1 ++ low) false ∧ 4 ≤ (1#1 ++ low).toNat := by
  revert low; decide

/-- An operation that answers a next state had one of the effects. -/
theorem exec_effect {i : Instr} {s t : State} (h : exec i s = .next t) : Effect i s t := by
  cases i with
  | tick0 => exact effect_of_tick (z := false) h
  | tick1 => exact effect_of_tick (z := true) h
  | wrDimTarget v =>
    obtain ⟨-, rfl⟩ := complete_eq_next.mp h
    exact .writesDimTarget v rfl
  | wrForceState v =>
    obtain ⟨-, rfl⟩ := complete_eq_next.mp h
    exact .writesForceState v rfl
  | wrMinDelay | wrMaxDelay | wrStatus | wrPhaseCnt | wrGuard | wrCalCnt | wrCalSum | wrCalIdx | wrUnmappedA | wrUnmappedB
  | wrUnmappedC | wrUnmappedD | wrUnmappedE | wrUnmappedF => exact effect_of_ignoredWrite h (by decide) (by decide)
  | rdDimTarget | rdMinDelay | rdMaxDelay | rdStatus | rdPhaseCnt | rdGuard | rdCalCnt | rdCalSum | rdCalIdx | rdForceState
  | rdUnmappedA | rdUnmappedB | rdUnmappedC | rdUnmappedD | rdUnmappedE | rdUnmappedF => exact effect_of_read h
  | rst =>
    obtain ⟨-, rfl⟩ := complete_eq_next.mp h
    exact .resets rfl
  | calWaitLow1 z => exact effect_of_calRow (ev := false) h (by decide) rfl fun hs => (calStep_waitLow1 hs z false).symm
  | calWaitHigh z => exact effect_of_calRow (ev := false) h (by decide) rfl fun hs => (calStep_waitHigh hs z false).symm
  | calWaitLow2 z => exact effect_of_calRow (ev := false) h (by decide) rfl fun hs => (calStep_waitLow2 hs z false).symm
  | calWaitRef ev => exact effect_of_calRow (z := false) h (by decide) rfl fun hs => (calStep_waitRef hs false ev).symm
  | calCollect ev => exact effect_of_calRow (z := false) h (by decide) rfl fun hs => (calStep_collect hs false ev).symm
  | calDone acc =>
    obtain ⟨hsel, -, rfl⟩ := completeRow_eq_next.mp h
    exact .controls acc s.zcPrev s.guard _ (selectsCal_iff.mp hsel) (.inr ⟨.inl rfl, rfl, rfl⟩)
  | pcIdle acc => exact effect_of_ctrlRow (acc := acc) h rfl fun hs => (phaseStep_idle hs acc).symm
  | pcOffset => exact effect_of_ctrlRow (acc := false) h rfl fun hs => (phaseStep_offset hs false).symm
  | pcDelay => exact effect_of_ctrlRow (acc := false) h rfl fun hs => (phaseStep_delay hs false).symm
  | pcTrigger => exact effect_of_ctrlRow (acc := false) h rfl fun hs => (phaseStep_trigger hs false).symm
  | pcInvalid04 low => exact effect_of_invalidRow h (decode_invalid04 low)
  | pcInvalid08 low => exact effect_of_invalidRow h (decode_invalid08 low)
  | pcInvalid10 low => exact effect_of_invalidRow h (decode_invalid10 low)
  | pcInvalid20 low => exact effect_of_invalidRow h (decode_invalid20 low)
  | pcInvalid40 low => exact effect_of_invalidRow h (decode_invalid40 low)
  | pcInvalid80 low => exact effect_of_invalidRow h (decode_invalid80 low)
  | illegal w =>
    obtain ⟨-, rfl⟩ := complete_eq_next.mp h
    exact .returns _

/-- A step with nothing issued changes nothing (log 5), and otherwise it had an effect of the next word's operation. -/
theorem step_effect {s t : State} (h : step s = .next t) :
    t = s ∨ ∃ w rest, s.ops = w :: rest ∧ Effect (decodeWord w) { s with ops := rest } t := by
  cases hops : s.ops with
  | nil =>
    rw [step, takeOp_nil hops] at h
    injection h with h
    exact .inl h.symm
  | cons w rest =>
    rw [step, takeOp_cons hops] at h
    exact .inr ⟨w, rest, rfl, exec_effect h⟩

/-! ### The calibration invariant -/

/-- A valid sample taken while fewer than CAL_N samples lie in the window keeps the sum between the multiples of the window
ends, and within 16 bits (R40, R89). -/
theorem sum_of_valid_sample {s : State} {n : Nat} (hinv : CalInv s) (hs : s.calPhase = .collect)
    (hvalid : validSample s.cfg n = true) :
    (s.calIdx.toNat + 1) * s.cfg.calWinLo ≤ s.calSum.toNat + n ∧
    s.calSum.toNat + n ≤ (s.calIdx.toNat + 1) * s.cfg.calWinHi ∧ s.calSum.toNat + n ≤ 0xFFFF := by
  obtain ⟨⟨-, -, hfits, -⟩, hcollect, -⟩ := hinv
  obtain ⟨hidx, hlo, hhi⟩ := hcollect hs
  simp only [validSample, Bool.and_eq_true, decide_eq_true_eq] at hvalid
  obtain ⟨hnlo, hnhi⟩ := hvalid
  have hmono : (s.calIdx.toNat + 1) * s.cfg.calWinHi ≤ s.cfg.calN * s.cfg.calWinHi := Nat.mul_le_mul_right _ hidx
  rw [Nat.add_one_mul] at hmono ⊢
  rw [Nat.add_one_mul]
  omega

theorem maxDelayOf_toNat {c : Config} (h : c.WF) (avg : Nat) :
    ((BitVec.ofInt 16 (maxDelayOf c avg)).toNat : Int) = maxDelayOf c avg := by
  obtain ⟨-, -, -, -, -, ⟨hle, hfits⟩, -⟩ := h
  exact ofInt_clamp_toNat _ hle hfits

theorem minDelayOf_toNat {c : Config} (h : c.WF) (avg : Nat) :
    ((BitVec.ofInt 16 (minDelayOf c avg)).toNat : Int) = minDelayOf c avg := by
  obtain ⟨-, -, -, -, -, -, ⟨hle, hfits⟩, -⟩ := h
  exact ofInt_clamp_toNat _ hle hfits

theorem calMove_keeps_calInv {ev : Bool} {s t : State} (h : CalMove ev s t) (hinv : CalInv s) : CalInv t := by
  have ⟨hwf, hcollect, _⟩ := hinv
  have ⟨⟨hN, hN'⟩, _⟩ := hwf
  cases h with
  | count c => exact hinv
  | advance p _ hwait =>
    refine ⟨hwf, ?_, ?_⟩ <;> rintro (rfl : p = _) <;> exact absurd hwait (by decide)
  | reference => exact ⟨hwf, fun _ => ⟨hN, by simp, by simp⟩, nofun⟩
  | sample n hs _ hvalid hmore =>
    obtain ⟨hidx, -, -⟩ := hcollect hs
    obtain ⟨hlo, hhi, hfits⟩ := sum_of_valid_sample hinv hs hvalid
    refine ⟨hwf, fun _ => ?_, fun hdone => absurd (hs.symm.trans hdone) (by decide)⟩
    rw [narrowCalSum_toNat hfits, narrowCalIdx_toNat (by omega)]
    exact ⟨Nat.lt_of_le_of_ne hidx hmore, hlo, hhi⟩
  | publish n hs _ hvalid hlast =>
    obtain ⟨hlo, hhi, hfits⟩ := sum_of_valid_sample hinv hs hvalid
    refine ⟨hwf, nofun, fun _ => ?_⟩
    rw [narrowCalSum_toNat hfits, narrowCalIdx_toNat (by omega), maxDelayOf_toNat hwf, minDelayOf_toNat hwf]
    exact ⟨hlast, hlast ▸ hlo, hlast ▸ hhi, rfl, rfl⟩

theorem resetOf_calInv {c : Config} (h : c.WF) : CalInv (State.resetOf c) :=
  ⟨h, nofun, nofun⟩

theorem effect_keeps_calInv {i : Instr} {s t : State} (h : Effect i s t) (hinv : CalInv s) : CalInv t := by
  cases h with
  | returns | writesDimTarget | writesForceState => exact hinv
  | resets => exact resetOf_calInv hinv.1
  | calibrates z ev b g =>
    have hmove := calStep_move z ev { s with zcPrev := b, guard := g }
    have hkept : CalInv (calStep z ev { s with zcPrev := b, guard := g }) := calMove_keeps_calInv hmove hinv
    exact hkept
  | controls acc => rw [phaseStep_frame]; exact hinv

/-- Settles O41: taking a word leaves the invariant's elements, and every effect keeps it; the moves of calibration carry
the argument. -/
theorem stepKeepsCalibrationInvariant : Obligations.StepKeepsCalibrationInvariant := by
  intro s t hinv h
  rcases step_effect h with rfl | ⟨w, rest, -, heff⟩
  · exact hinv
  · exact effect_keeps_calInv heff hinv

/-! ### The phase control invariant -/

/-- Where the pulse stands in an unforced RUN mode: in each valid state, its GATE and its bound on PHASE_CNT (R37, R38). -/
inductive PulseAt (s : State) : Prop
  | idle (hs : s.ctrlState = 0) (hgate : s.gate = false)
      (hcnt : s.phaseCnt.toNat ≤ max (max (s.cfg.zcOffset - 1) s.cfg.safetyTimeout) s.cfg.triggerPulseWidth)
  | offset (hs : s.ctrlState = 1) (hgate : s.gate = false) (hcnt : s.phaseCnt.toNat < s.cfg.zcOffset)
  | delay (hs : s.ctrlState = 2) (hgate : s.gate = false) (hcnt : s.phaseCnt.toNat < s.cfg.safetyTimeout)
  | trigger (hs : s.ctrlState = 3) (hgate : s.gate = true) (hcnt : s.phaseCnt.toNat < s.cfg.triggerPulseWidth)

theorem pulseAt_of_unforcedInv {s : State} (h : UnforcedInv s) : PulseAt s := by
  obtain ⟨-, -, hgate, hvalid, hcnt, hoffset, hdelay, htrigger⟩ := h
  have hlow : s.ctrlState ≠ 3 → s.gate = false := fun hne => Bool.eq_false_iff.mpr (hne ∘ hgate.mp)
  have hstate : s.ctrlState = 0 ∨ s.ctrlState = 1 ∨ s.ctrlState = 2 ∨ s.ctrlState = 3 := by bv_omega
  rcases hstate with hs | hs | hs | hs
  · exact .idle hs (hlow (by simp [hs])) hcnt
  · exact .offset hs (hlow (by simp [hs])) (hoffset hs)
  · exact .delay hs (hlow (by simp [hs])) (hdelay hs)
  · exact .trigger hs (hgate.mpr hs) (htrigger hs)

theorem unforcedInv_of_pulseAt {s : State} (hwf : s.cfg.WF) (hdone : s.calPhase = .done) (h : PulseAt s) :
    UnforcedInv s := by
  refine ⟨hwf, fun hcal => absurd hdone hcal, ?_⟩
  cases h with
  | idle hs hgate hcnt => simpa [hs, hgate] using hcnt
  | offset hs hgate hcnt => simp [hs, hgate, hcnt]; omega
  | delay hs hgate hcnt => simp [hs, hgate, hcnt]; omega
  | trigger hs hgate hcnt => simp [hs, hgate, hcnt]; omega

/-- Within its bounds PHASE_CNT does not wrap, so the pulse goes from each state to where its rule says. -/
theorem phaseStep_keeps_pulseAt {s : State} (acc : Bool) (hwf : s.cfg.WF) (h : PulseAt s) : PulseAt (phaseStep acc s) := by
  obtain ⟨-, -, -, -, -, -, -, ⟨hz, hz'⟩, ⟨hw, hw'⟩, ⟨ht, ht'⟩⟩ := hwf
  have hcount : s.phaseCnt.toNat < 0xFFFF → (inc16 s.phaseCnt).toNat = s.phaseCnt.toNat + 1 := inc16_toNat_of_lt _
  cases h with
  | idle hs hgate hcnt =>
    rw [phaseStep_idle hs]
    rcases idleStep_cases acc s with ⟨-, h⟩ | ⟨-, h⟩ <;> rw [h]
    · exact .offset rfl hgate hz
    · exact .idle hs hgate hcnt
  | offset hs hgate hcnt =>
    rw [phaseStep_offset hs]
    rcases offsetStep_cases s with ⟨-, h⟩ | ⟨hlt, h⟩ <;> rw [h]
    · exact .delay rfl hgate ht
    · exact .offset hs hgate hlt
  | delay hs hgate hcnt =>
    rw [phaseStep_delay hs]
    rcases delayStep_cases s with ⟨-, -, h⟩ | ⟨-, h⟩ | ⟨hlt, -, h⟩ <;> rw [h]
    · exact .trigger rfl rfl hw
    · exact .idle rfl rfl ((hcount (by omega)).trans_le (by dsimp only; omega))
    · exact .delay hs hgate hlt
  | trigger hs hgate hcnt =>
    rw [phaseStep_trigger hs]
    rcases triggerStep_cases s with ⟨-, h⟩ | ⟨hlt, h⟩ <;> rw [h]
    · exact .idle rfl rfl ((hcount (by omega)).trans_le (by dsimp only; omega))
    · exact .trigger hs hgate hlt

theorem resetOf_unforcedInv {c : Config} (h : c.WF) : UnforcedInv (State.resetOf c) := by
  refine ⟨h, fun _ => ⟨rfl, rfl, rfl, rfl⟩, ?_⟩
  simp

/-- A calibration step leaves phase control at its reset values, whichever phase it ends in (R36). -/
theorem calStep_keeps_unforcedInv {s : State} (z ev : Bool) (hcal : s.calPhase ≠ .done) (h : UnforcedInv s) :
    UnforcedInv (calStep z ev s) := by
  obtain ⟨hwf, hreset, hpulse⟩ := h
  rw [calStep_frame]
  exact ⟨hwf, fun _ => hreset hcal, hpulse⟩

theorem phaseStep_keeps_unforcedInv {s : State} (acc : Bool) (hdone : s.calPhase = .done) (h : UnforcedInv s) :
    UnforcedInv (phaseStep acc s) := by
  have hpulse := phaseStep_keeps_pulseAt acc h.1 (pulseAt_of_unforcedInv h)
  refine unforcedInv_of_pulseAt ?_ ?_ hpulse <;> rw [phaseStep_frame]
  · exact h.1
  · exact hdone

theorem effect_keeps_unforcedInv {i : Instr} {s t : State} (h : Effect i s t) (hi : isForce i = false)
    (hinv : UnforcedInv s) : UnforcedInv t := by
  cases h with
  | returns | writesDimTarget => exact hinv
  | writesForceState v hv => rw [hv] at hi; cases hi
  | resets => exact resetOf_unforcedInv hinv.1
  | calibrates z ev b g _ hcal =>
    exact calStep_keeps_unforcedInv (s := { s with zcPrev := b, guard := g }) z ev hcal hinv
  | controls acc b g _ hdone =>
    exact phaseStep_keeps_unforcedInv (s := { s with zcPrev := b, guard := g }) acc hdone hinv

/-- Settles O42: taking a word leaves the invariant's elements, and every effect but a FORCE_STATE write keeps it. -/
theorem unforcedStepKeepsPhaseInvariant : Obligations.UnforcedStepKeepsPhaseInvariant := by
  intro s t hinv hforce h
  rcases step_effect h with rfl | ⟨w, rest, hops, heff⟩
  · exact hinv
  · exact effect_keeps_unforcedInv heff (hforce w rest hops) hinv

/-! ### Who writes what -/

/-- Settles O32: the frame of each effect. -/
theorem noOperationChangesTheConfiguration : Obligations.NoOperationChangesTheConfiguration := by
  intro i s t h
  cases exec_effect h with
  | returns | writesDimTarget | writesForceState | resets => exact ⟨rfl, rfl⟩
  | calibrates => rw [calStep_frame]; exact ⟨rfl, rfl⟩
  | controls => rw [phaseStep_frame]; exact ⟨rfl, rfl⟩

/-- Settles O33: of the effects, only the WRITE of it and RESET do not frame DIM_TARGET. -/
theorem onlyTheHostChangesDimTarget : Obligations.OnlyTheHostChangesDimTarget := by
  intro i s t h hne
  cases exec_effect h with
  | writesDimTarget v hi => exact .inl hi
  | resets hi => exact .inr ⟨hi, rfl⟩
  | returns | writesForceState => exact absurd rfl hne
  | calibrates => rw [calStep_frame] at hne; exact absurd rfl hne
  | controls => rw [phaseStep_frame] at hne; exact absurd rfl hne

/-- The operations that run COLLECT with an edge: a TICK, or the row CAL.COLLECT. -/
theorem runsCalStep_collect {i : Instr} {s : State} {z b : Bool} {g : Reg16} (h : RunsCalStep i s z true b g)
    (hs : s.calPhase = .collect) : i = .tick0 ∨ i = .tick1 ∨ i = .calCollect true := by
  rcases h with ⟨rfl, -⟩ | ⟨hrow, -⟩
  · cases z
    · exact .inl rfl
    · exact .inr (.inl rfl)
  · rw [hs] at hrow
    injection hrow with hrow
    exact .inr (.inr hrow.symm)

/-- Settles O34: of the moves of calibration only the publication changes a bound. -/
theorem onlyCompletionChangesTheBounds : Obligations.OnlyCompletionChangesTheBounds := by
  intro i s t h hne
  cases exec_effect h with
  | resets hi => exact .inl hi
  | returns | writesDimTarget | writesForceState => simp at hne
  | calibrates z ev b g _ _ hrun =>
    obtain ⟨hs, hdone, rfl⟩ := calMove_bounds (calStep_move z ev { s with zcPrev := b, guard := g }) hne
    exact .inr ⟨hs, hdone, runsCalStep_collect hrun hs⟩
  | controls => rw [phaseStep_frame] at hne; simp at hne

/-- Settles O35: calibration frames GATE, and phase control raises it only where DELAY fires. -/
theorem gateRisesOnlyByFiring : Obligations.GateRisesOnlyByFiring := by
  intro i s t h hlow hhigh
  cases exec_effect h with
  | returns | writesDimTarget | writesForceState => rw [hlow] at hhigh; cases hhigh
  | resets => cases hhigh
  | calibrates => rw [calStep_frame] at hhigh; rw [hlow] at hhigh; cases hhigh
  | controls acc b g _ hdone =>
    obtain ⟨hs, harmed, hctrl, hcnt⟩ := phaseStep_gate_rises (s := { s with zcPrev := b, guard := g }) hlow hhigh
    exact ⟨hdone, hs, harmed, hctrl, hcnt⟩

theorem accept_false (s : State) : accept false s = false := rfl

/-- The operations that run IDLE with an accepted edge. -/
theorem runsPhaseStep_idle {i : Instr} {s : State} {b : Bool} {g : Reg16} (h : RunsPhaseStep i s true b g)
    (hs : s.ctrlState = 0) : i = .tick1 ∧ accept true s = true ∨ i = .pcIdle true ∨ i = .calDone true := by
  rcases h with ⟨z, rfl, hacc, -⟩ | ⟨hi | hi, -⟩
  · cases z
    · rw [accept_false] at hacc; cases hacc
    · exact .inl ⟨rfl, hacc.symm⟩
  · exact .inr (.inr hi)
  · rw [hs] at hi
    exact .inr (.inl hi)

/-- Settles O36: calibration frames HEARTBEAT, and phase control toggles it only where IDLE takes the edge. -/
theorem heartbeatTogglesOnlyOnATakenEdge : Obligations.HeartbeatTogglesOnlyOnATakenEdge := by
  intro i s t h hne
  cases exec_effect h with
  | resets hi => exact .inl hi
  | returns | writesDimTarget | writesForceState => exact absurd rfl hne
  | calibrates => rw [calStep_frame] at hne; exact absurd rfl hne
  | controls acc b g _ hdone hrun =>
    obtain ⟨hs, rfl, hctrl, hcnt⟩ := phaseStep_heartbeat_ne (s := { s with zcPrev := b, guard := g }) hne
    exact .inr ⟨hdone, hs, hctrl, hcnt, runsPhaseStep_idle hrun hs⟩

/-- Settles O37: the moves of calibration go forward by at most one phase, and no other effect but RESET moves it. -/
theorem calPhaseOnlyMovesForward : Obligations.CalPhaseOnlyMovesForward := by
  intro i s t h hi
  cases exec_effect h with
  | returns | writesDimTarget | writesForceState => exact ⟨le_refl _, Nat.le_succ _, id⟩
  | resets hrst => exact absurd hrst hi
  | calibrates z ev b g _ hcal =>
    obtain ⟨hge, hle⟩ := calMove_phase (calStep_move z ev { s with zcPrev := b, guard := g })
    exact ⟨hge, hle, fun hdone => absurd hdone hcal⟩
  | controls => rw [phaseStep_frame]; exact ⟨le_refl _, Nat.le_succ _, id⟩

/-- Settles O38: calibration frames CTRL_STATE, phase control and RESET leave it valid, and FORCE_STATE is the one WRITE
of it. -/
theorem invalidStatesAriseOnlyByForce : Obligations.InvalidStatesAriseOnlyByForce := by
  intro i s t h hvalid hinvalid
  cases exec_effect h with
  | writesForceState v hi => exact ⟨v, hi, rfl⟩
  | returns | writesDimTarget => exact absurd hvalid (not_lt.mpr hinvalid)
  | resets => exact absurd hinvalid (by simp)
  | calibrates => rw [calStep_frame] at hinvalid; exact absurd hvalid (not_lt.mpr hinvalid)
  | controls acc => exact absurd (phaseStep_ctrlState_lt acc _) (not_lt.mpr hinvalid)

end Sys2Proof.Machine
end

section
/-!
Family 20_memory.md: how the streams of the two agents act on the state (R46 to R50). A word's effect is given as a function
of the state, a run as a fold of it, and the fields the agents act on (the words still to take, RDATA, DIM_TARGET) as a part
of the state that the two machines carry along.
-/

namespace Sys2Proof.Machine

/-! ### The step and the stream -/

theorem step_of_ops_cons {s : State} {w : OpWord} {rest : List OpWord} (h : s.ops = w :: rest) :
    step s = exec (decodeWord w) (s.setOps rest) := by
  rw [step, takeOp_cons h]

theorem step_of_ops_nil {s : State} (h : s.ops = []) : step s = .next s := by
  rw [step, takeOp_nil h]

/-- Settles O1: the word taken is the word next in the stream, and a word's decoding is `decodeWord`. -/
theorem stepRunsTheNextWord : Obligations.StepRunsTheNextWord := by
  refine ⟨fun s w rest i hops hdecode _ => ?_, fun s => step_of_ops_nil⟩
  have hi : decodeWord w = i := by injection hdecode
  rw [step_of_ops_cons hops, hi]

/-! ### The effect of a word -/

/-- What the word `w` leaves of `s`, under a well-formed configuration: the effect of its format (R57 to R63). -/
def wordStep (s : State) (w : OpWord) : State :=
  if isIllegalWord w then s.setRdata (illegalRdata w)
  else if opField w = 0 then tick (zcField w) s
  else if opField w = 1 then hostWrite (addrField w) (dataField w) s
  else if opField w = 2 then hostRead (addrField w) s
  else resetStep s

/-- A word is illegal or of one of the four formats, and acts alike on every state. -/
theorem wordStep_cases (w : OpWord) :
    (isIllegalWord w = true ∧ ∀ s, wordStep s w = s.setRdata (illegalRdata w)) ∨
    (isIllegalWord w = false ∧ opField w = 0 ∧ ∀ s, wordStep s w = tick (zcField w) s) ∨
    (isIllegalWord w = false ∧ opField w = 1 ∧ ∀ s, wordStep s w = hostWrite (addrField w) (dataField w) s) ∨
    (isIllegalWord w = false ∧ opField w = 2 ∧ ∀ s, wordStep s w = hostRead (addrField w) s) ∨
    (isIllegalWord w = false ∧ opField w = 3 ∧ ∀ s, wordStep s w = resetStep s) := by
  have hop : opField w = 0 ∨ opField w = 1 ∨ opField w = 2 ∨ opField w = 3 := by bv_omega
  cases hw : isIllegalWord w
  · rcases hop with hop | hop | hop | hop <;> simp [wordStep, hw, hop]
  · simp [wordStep, hw]

theorem exec_tickInstr (z : Bool) (s : State) : exec (tickInstr z) s = complete s (tick z s) := by
  cases z <;> rfl

/-- Each WRITE row writes the address that selects it. -/
theorem exec_decodeWrite (a : Addr) (v : Reg16) (s : State) :
    exec (decodeWrite a v) s = complete s (hostWrite a v s) := by
  obtain ⟨n, hn⟩ := a
  interval_cases n <;> rfl

/-- Each READ row reads the address that selects it. -/
theorem exec_decodeRead (a : Addr) (s : State) : exec (decodeRead a) s = complete s (hostRead a s) := by
  obtain ⟨n, hn⟩ := a
  interval_cases n <;> rfl

/-- A word of the stream is never a dispatch row: it completes with its effect wherever the configuration lets it. -/
theorem exec_decodeWord (w : OpWord) (s : State) : exec (decodeWord w) s = complete s (wordStep s w) := by
  rcases wordStep_cases w with ⟨hw, h⟩ | ⟨hw, hop, h⟩ | ⟨hw, hop, h⟩ | ⟨hw, hop, h⟩ | ⟨hw, hop, h⟩
  all_goals rw [h s]
  · rw [show decodeWord w = .illegal w from if_pos hw]; rfl
  · rw [← exec_tickInstr]; simp [decodeWord, hw, hop, tickInstr]
  · rw [← exec_decodeWrite]; simp [decodeWord, hw, hop]
  · rw [← exec_decodeRead]; simp [decodeWord, hw, hop]
  · rw [show decodeWord w = .rst by simp [decodeWord, hw, hop]]; rfl

theorem wordStep_cfg_of_wf {s : State} (h : s.cfg.WF) (w : OpWord) : (wordStep s w).cfg = s.cfg := by
  have hexec : exec (decodeWord w) s = .next (wordStep s w) := by rw [exec_decodeWord, complete_of_wf h]
  exact (noOperationChangesTheConfiguration _ _ _ hexec).1

/-- Under a well-formed configuration a run completes, with the effects of its words one after the other (R49). -/
theorem runWords_of_wf (ws : List OpWord) : ∀ {s : State}, s.cfg.WF → runWords ws s = .next (ws.foldl wordStep s) := by
  induction ws with
  | nil => exact fun _ => rfl
  | cons w ws ih =>
    intro s h
    rw [runWords, exec_decodeWord, complete_of_wf h]
    exact ih ((wordStep_cfg_of_wf h w).symm ▸ h)

/-! ### The side of the state that the agents act on -/

/-- `s` with `o` still to take, `r` returned and `d` in DIM_TARGET. -/
def State.setHostSide (s : State) (o : List OpWord) (r : Option Reg16) (d : Reg16) : State :=
  ((s.setOps o).setRdata r).setDimTarget d

theorem setHostSide_ite (p : Prop) [Decidable p] (t u : State) (o : List OpWord) (r : Option Reg16) (d : Reg16) :
    (if p then t else u).setHostSide o r d = if p then t.setHostSide o r d else u.setHostSide o r d :=
  apply_ite (fun x : State => x.setHostSide o r d) p t u

theorem collectStep_setHostSide (ev : Bool) (s : State) (o : List OpWord) (r : Option Reg16) (d : Reg16) :
    collectStep ev (s.setHostSide o r d) = (collectStep ev s).setHostSide o r d := by
  simp only [collectStep, takeSample, setHostSide_ite]
  rfl

theorem delayStep_setHostSide (s : State) (o : List OpWord) (r : Option Reg16) :
    delayStep (s.setHostSide o r s.dimTarget) = (delayStep s).setHostSide o r s.dimTarget := by
  simp only [delayStep, setHostSide_ite]
  rfl

/-- A calibration step neither reads nor writes the host's side. -/
theorem calStep_setHostSide (z ev : Bool) (s : State) (o : List OpWord) (r : Option Reg16) (d : Reg16) :
    calStep z ev (s.setHostSide o r d) = (calStep z ev s).setHostSide o r d := by
  have hphase : (s.setHostSide o r d).calPhase = s.calPhase := rfl
  cases hs : s.calPhase with
  | waitLow1 => rw [calStep_waitLow1 hs, calStep_waitLow1 (hphase.trans hs)]; cases z <;> rfl
  | waitHigh => rw [calStep_waitHigh hs, calStep_waitHigh (hphase.trans hs)]; cases z <;> rfl
  | waitLow2 => rw [calStep_waitLow2 hs, calStep_waitLow2 (hphase.trans hs)]; cases z <;> rfl
  | waitRef => rw [calStep_waitRef hs, calStep_waitRef (hphase.trans hs)]; cases ev <;> rfl
  | collect => rw [calStep_collect hs, calStep_collect (hphase.trans hs), collectStep_setHostSide]
  | done => rw [calStep_done hs, calStep_done (hphase.trans hs)]

/-- A phase-control step does not write the host's side, and only DELAY reads of it, which is DIM_TARGET (R102). -/
theorem phaseStep_setHostSide (acc : Bool) {s : State} (o : List OpWord) (r : Option Reg16) {d : Reg16}
    (hd : s.ctrlState = 2 → d = s.dimTarget) :
    phaseStep acc (s.setHostSide o r d) = (phaseStep acc s).setHostSide o r d := by
  have hctrl : (s.setHostSide o r d).ctrlState = s.ctrlState := rfl
  rcases phaseStep_cases acc s with ⟨hs, h⟩ | ⟨hs, h⟩ | ⟨hs, h⟩ | ⟨hs, h⟩ | ⟨hs, h⟩ <;> rw [h]
  · rw [phaseStep_idle (hctrl.trans hs)]; cases acc <;> rfl
  · rw [phaseStep_offset (hctrl.trans hs)]; simp only [offsetStep, setHostSide_ite]; rfl
  · rw [phaseStep_delay (hctrl.trans hs), hd hs, delayStep_setHostSide]
  · rw [phaseStep_trigger (hctrl.trans hs)]; simp only [triggerStep, setHostSide_ite]; rfl
  · rw [phaseStep_invalid (hctrl ▸ hs)]; rfl

/-- The same for a whole TICK, which returns nothing: only a RUN-mode DELAY TICK reads DIM_TARGET (R69, R70, R102). -/
theorem tick_setHostSide (z : Bool) {s : State} (o : List OpWord) (r : Option Reg16) {d : Reg16}
    (hd : s.calPhase = .done → s.ctrlState = 2 → d = s.dimTarget) :
    tick z (s.setHostSide o r d) = (tick z s).setHostSide o none d := by
  by_cases hs : s.calPhase = .done
  · rw [tick_run hs, tick_run (s := s.setHostSide o r d) hs]
    have h := phaseStep_setHostSide (accept z s) (s := edgeStep z s) o r (hd hs)
    exact congrArg (fun t : State => t.setRdata none) h
  · rw [tick_cal hs, tick_cal (s := s.setHostSide o r d) hs]
    have h := calStep_setHostSide z (calEvent z s) (edgeStep z s) o r d
    exact congrArg (fun t : State => t.setRdata none) h

theorem tick_hostSide (z : Bool) (s : State) : tick z s = (tick z s).setHostSide s.ops none s.dimTarget :=
  tick_setHostSide z s.ops s.rdata fun _ _ => rfl

/-- A TICK takes no word from the stream. -/
theorem tick_setOps (z : Bool) (s : State) (o : List OpWord) : tick z (s.setOps o) = (tick z s).setOps o :=
  calc tick z (s.setOps o)
    _ = (tick z s).setHostSide o none s.dimTarget := tick_setHostSide z o s.rdata fun _ _ => rfl
    _ = (tick z s).setOps o := (congrArg (fun t : State => t.setOps o) (tick_hostSide z s)).symm

/-- What was returned before a TICK makes no difference to it. -/
theorem tick_setRdata (z : Bool) (s : State) (r : Option Reg16) : tick z (s.setRdata r) = tick z s :=
  calc tick z (s.setRdata r)
    _ = (tick z s).setHostSide s.ops none s.dimTarget := tick_setHostSide z s.ops r fun _ _ => rfl
    _ = tick z s := (tick_hostSide z s).symm

/-- Any TICK but a RUN-mode DELAY TICK carries a DIM_TARGET along (R102). -/
theorem tick_setDimTarget (z : Bool) {s : State} (d : Reg16) (hs : ¬ (s.calPhase = .done ∧ s.ctrlState = 2)) :
    tick z (s.setDimTarget d) = (tick z s).setDimTarget d :=
  calc tick z (s.setDimTarget d)
    _ = (tick z s).setHostSide s.ops none d :=
      tick_setHostSide z s.ops s.rdata fun hdone hdelay => absurd ⟨hdone, hdelay⟩ hs
    _ = (tick z s).setDimTarget d := (congrArg (fun t : State => t.setDimTarget d) (tick_hostSide z s)).symm

/-! ### What a word makes of the host's side -/

theorem hostWrite_setOps (a : Addr) (v : Reg16) (s : State) (o : List OpWord) :
    hostWrite a v (s.setOps o) = (hostWrite a v s).setOps o := by
  obtain ⟨n, hn⟩ := a
  interval_cases n <;> rfl

theorem hostWrite_setRdata (a : Addr) (v : Reg16) (s : State) (r : Option Reg16) :
    hostWrite a v (s.setRdata r) = hostWrite a v s := by
  obtain ⟨n, hn⟩ := a
  interval_cases n <;> rfl

/-- No word reads or writes the words issued after it. -/
theorem wordStep_setOps (s : State) (o : List OpWord) (w : OpWord) :
    wordStep (s.setOps o) w = (wordStep s w).setOps o := by
  rcases wordStep_cases w with ⟨-, h⟩ | ⟨-, -, h⟩ | ⟨-, -, h⟩ | ⟨-, -, h⟩ | ⟨-, -, h⟩ <;> rw [h, h]
  · rfl
  · rw [tick_setOps]
  · rw [hostWrite_setOps]
  · rfl
  · rfl

/-- A READ-shaped word, legal or illegal, changes only what is returned (R46, R63, R118). -/
theorem wordStep_of_readShaped {w : OpWord} (hw : isReadShaped w = true) (s : State) :
    ∃ r, wordStep s w = s.setRdata r := by
  have hop : opField w = 2 := beq_iff_eq.mp hw
  rcases wordStep_cases w with ⟨-, h⟩ | ⟨-, h', h⟩ | ⟨-, h', h⟩ | ⟨-, -, h⟩ | ⟨-, h', h⟩
  · exact ⟨_, h s⟩
  case inr.inr.inr.inl => exact ⟨_, h s⟩
  all_goals exact absurd (hop.symm.trans h') (by decide)

/-- The elements that a word leaves do not depend on what was returned before it. -/
theorem wordStep_setRdata (s : State) (r : Option Reg16) (w : OpWord) :
    ∃ r', wordStep (s.setRdata r) w = (wordStep s w).setRdata r' := by
  rcases wordStep_cases w with ⟨-, h⟩ | ⟨-, -, h⟩ | ⟨-, -, h⟩ | ⟨-, -, h⟩ | ⟨-, -, h⟩ <;> rw [h, h]
  · exact ⟨_, rfl⟩
  · exact ⟨none, tick_setRdata _ s r⟩
  · exact ⟨none, hostWrite_setRdata _ _ s r⟩
  · exact ⟨_, rfl⟩
  · exact ⟨none, rfl⟩

/-! ### Runs of a stream -/

theorem core_run_succ_of_next {M : Host.Core} (s : M.State) {t : M.State} (h : M.step s = .next t) (k : Nat) :
    M.run (k + 1) s = M.run k t := by
  rw [Host.Core.run, h]

theorem core_run_succ_of_refused {M : Host.Core} (s : M.State) {r : M.Refusal} (h : M.step s = .refused r) (k : Nat) :
    M.run (k + 1) s = .refused r := by
  rw [Host.Core.run, h]

/-- Settles O3, by induction on the words: each step takes the first of them, and its word leaves the others as they are. -/
theorem stepsOverAStreamRunItsWords : Obligations.StepsOverAStreamRunItsWords := by
  intro ws rest
  induction ws with
  | nil => exact fun _ => rfl
  | cons w ws ih =>
    intro s
    have hstep : step (s.setOps (w :: ws ++ rest)) = complete s ((wordStep s w).setOps (ws ++ rest)) := by
      rw [step_of_ops_cons rfl, exec_decodeWord, ← wordStep_setOps]; rfl
    have hexec : exec (decodeWord w) (s.setOps rest) = complete s ((wordStep s w).setOps rest) := by
      rw [exec_decodeWord, ← wordStep_setOps]; rfl
    rw [runWords, hexec, List.length_cons]
    by_cases hwf : s.cfg.WF
    · rw [complete_of_wf hwf] at hstep ⊢
      have hrun := core_run_succ_of_next (M := Sys2Proof.core) (s.setOps (w :: ws ++ rest)) hstep ws.length
      exact hrun.trans (ih (wordStep s w))
    · rw [complete_of_not_wf hwf] at hstep ⊢
      exact core_run_succ_of_refused (M := Sys2Proof.core) (s.setOps (w :: ws ++ rest)) hstep _

/-- Whatever was returned before them, the words leave the elements that they leave without the READ-shaped ones. -/
theorem foldl_wordStep_without_reads (ws : List OpWord) : ∀ (s : State) (r : Option Reg16), ∃ r',
    ws.foldl wordStep (s.setRdata r) = ((ws.filter fun w => !isReadShaped w).foldl wordStep s).setRdata r' := by
  induction ws with
  | nil => exact fun s r => ⟨r, rfl⟩
  | cons w ws ih =>
    intro s r
    cases hw : isReadShaped w
    · obtain ⟨r', hstep⟩ := wordStep_setRdata s r w
      simpa [hw, hstep] using ih (wordStep s w) r'
    · obtain ⟨r', hstep⟩ := wordStep_of_readShaped hw (s.setRdata r)
      have hstep' : wordStep (s.setRdata r) w = s.setRdata r' := hstep
      simpa [hw, hstep'] using ih s r'

theorem sameElements_setRdata (s : State) (r : Option Reg16) : sameElements (s.setRdata r) s := by
  simp [sameElements]

/-- Settles O58: both runs complete, and they end in the same state but for what it returned last. -/
theorem readsDisturbNothing : Obligations.ReadsDisturbNothing := by
  intro s ws hwf
  refine ⟨_, _, runWords_of_wf ws hwf, runWords_of_wf _ hwf, ?_⟩
  obtain ⟨r, hr⟩ := foldl_wordStep_without_reads ws s s.rdata
  rw [show s.setRdata s.rdata = s from rfl] at hr
  rw [hr]
  exact sameElements_setRdata _ r

/-! ### The order of a DIM_TARGET write and a TICK -/

theorem wordStep_tickWord (s : State) (z : Bool) : wordStep s (tickWord z) = tick z s := by
  cases z <;> rfl

theorem addrField_writeWord (a : Addr) (v : Reg16) : addrField (writeWord a v) = a := by
  apply BitVec.eq_of_getLsbD_eq
  intro i hi
  simp only [addrField, writeWord, BitVec.getLsbD_extractLsb', BitVec.getLsbD_append, hi]
  interval_cases i <;> simp

theorem dataField_writeWord (a : Addr) (v : Reg16) : dataField (writeWord a v) = v := by
  apply BitVec.eq_of_getLsbD_eq
  intro i hi
  simp only [dataField, writeWord, BitVec.getLsbD_extractLsb', BitVec.getLsbD_append, hi]
  interval_cases i <;> simp

theorem wordStep_writeWord (s : State) (a : Addr) (v : Reg16) : wordStep s (writeWord a v) = hostWrite a v s := by
  obtain ⟨hlegal, hop⟩ := writeWord_legal a v
  simp [wordStep, hlegal, hop, addrField_writeWord, dataField_writeWord]

/-- Settles O59: the two orders end in the very same state, as the TICK carries DIM_TARGET along. -/
theorem dimWriteCommutesWithOtherTicks : Obligations.DimWriteCommutesWithOtherTicks := by
  intro s v z hwf hs
  refine ⟨_, _, runWords_of_wf _ hwf, runWords_of_wf _ hwf, ?_⟩
  simp only [List.foldl_cons, List.foldl_nil, wordStep_tickWord, wordStep_writeWord]
  have hwrite : tick z (hostWrite 0x0 v s) = (tick z s).setDimTarget v :=
    (tick_setRdata z (s.setDimTarget v) none).trans (tick_setDimTarget z v hs)
  rw [hwrite]
  exact sameElements_setRdata ((tick z s).setDimTarget v) none

end Sys2Proof.Machine
end

section
/-!
Family 30_encoding.md: the operation word cut into its fields, the words of the four formats as the legal words (R57 to R63),
and the decoder, the encoder, the opcode table's rows and the assembler related through them (R64 to R68).
-/

namespace Sys2Proof.Machine

/-! ### The fields of a word (R57 to R60) -/

theorem word_eq_fields (w : OpWord) : opField w ++ w.extractLsb' 20 2 ++ addrField w ++ dataField w = w := by
  simp only [opField, addrField, dataField, BitVec.extractLsb'_append_extractLsb'_eq_extractLsb']
  exact BitVec.extractLsb'_eq_self

theorem word_eq_tickFields (w : OpWord) : opField w ++ w.extractLsb' 1 21 ++ BitVec.ofBool (zcField w) = w := by
  have hzc : BitVec.ofBool (zcField w) = w.extractLsb' 0 1 := by
    apply BitVec.eq_of_getLsbD_eq
    simp [zcField]
  simp only [hzc, opField, BitVec.extractLsb'_append_extractLsb'_eq_extractLsb']
  exact BitVec.extractLsb'_eq_self

theorem word_eq_op_rest (w : OpWord) : opField w ++ w.extractLsb' 0 22 = w :=
  BitVec.extractLsb'_append_extractLsb' (w := 2) (len := 22)

/-- The mask of a field: ones on `n` bits from bit `k` up. -/
def fieldMask (k n : Nat) : OpWord := (BitVec.allOnes n).setWidth 24 <<< k

/-- A word has no bit of a field set exactly when the field, cut out, is 0. -/
theorem and_fieldMask_eq_zero (w : OpWord) {k n : Nat} (h : k + n ≤ 24) :
    w &&& fieldMask k n = 0 ↔ w.extractLsb' k n = 0 := by
  constructor
  · intro hw
    apply BitVec.eq_of_getLsbD_eq
    intro i hi
    have hbit := congrArg (fun x : OpWord => x.getLsbD (k + i)) hw
    simpa [fieldMask, hi, show k + i < 24 by omega] using hbit
  · intro hw
    apply BitVec.eq_of_getLsbD_eq
    intro i hi
    by_cases hik : k ≤ i ∧ i - k < n
    · have hbit : w.getLsbD i = false := by
        simpa [hik.2, show k + (i - k) = i by omega] using congrArg (fun x : BitVec n => x.getLsbD (i - k)) hw
      simp [hbit]
    · simp [fieldMask]; omega

/-- A word is illegal exactly when a reserved field of its format is not 0 (R63). -/
theorem isIllegalWord_iff (w : OpWord) :
    isIllegalWord w = true ↔
      (opField w = 0 ∧ w.extractLsb' 1 21 ≠ 0) ∨ (opField w = 1 ∧ w.extractLsb' 20 2 ≠ 0) ∨
      (opField w = 2 ∧ (w.extractLsb' 20 2 ≠ 0 ∨ w.extractLsb' 0 16 ≠ 0)) ∨
      (opField w = 3 ∧ w.extractLsb' 0 22 ≠ 0) := by
  have hop : opField w = 0 ∨ opField w = 1 ∨ opField w = 2 ∨ opField w = 3 := by bv_omega
  have htwo : w &&& (fieldMask 20 2 ||| fieldMask 0 16) = 0 ↔ w &&& fieldMask 20 2 = 0 ∧ w &&& fieldMask 0 16 = 0 := by
    rw [BitVec.and_or_distrib_left]; exact BitVec.or_eq_zero_iff
  rw [isIllegalWord, bne_iff_ne, ne_eq]
  rcases hop with hop | hop | hop | hop <;> rw [hop]
  · rw [show reservedMask 0 = fieldMask 1 21 by decide, and_fieldMask_eq_zero w (by decide)]; simp
  · rw [show reservedMask 1 = fieldMask 20 2 by decide, and_fieldMask_eq_zero w (by decide)]; simp
  · rw [show reservedMask 2 = fieldMask 20 2 ||| fieldMask 0 16 by decide, htwo, and_fieldMask_eq_zero w (by decide),
      and_fieldMask_eq_zero w (by decide), not_and_or]; simp
  · rw [show reservedMask 3 = fieldMask 0 22 by decide, and_fieldMask_eq_zero w (by decide)]; simp

/-- Every word is illegal or is one of the words that the four formats write (R63). -/
theorem word_cases (w : OpWord) :
    isIllegalWord w = true ∨ (∃ z, w = tickWord z) ∨ (∃ a v, w = writeWord a v) ∨ (∃ a, w = readWord a) ∨
    w = resetWord := by
  by_cases hw : isIllegalWord w = true
  · exact .inl hw
  right
  rw [isIllegalWord_iff] at hw
  push Not at hw
  obtain ⟨htick, hwrite, hread, hreset⟩ := hw
  have hop : opField w = 0 ∨ opField w = 1 ∨ opField w = 2 ∨ opField w = 3 := by bv_omega
  rcases hop with hop | hop | hop | hop
  · have heq := word_eq_tickFields w
    rw [hop, htick hop] at heq
    exact .inl ⟨_, heq.symm⟩
  · have heq := word_eq_fields w
    rw [hop, hwrite hop] at heq
    exact .inr (.inl ⟨_, _, heq.symm⟩)
  · have heq := word_eq_fields w
    rw [hop, (hread hop).1, show dataField w = 0 from (hread hop).2] at heq
    exact .inr (.inr (.inl ⟨_, heq.symm⟩))
  · have heq := word_eq_op_rest w
    rw [hop, hreset hop] at heq
    exact .inr (.inr (.inr heq.symm))

/-! ### Decode and encode -/

theorem decodeWord_illegal {w : OpWord} (h : isIllegalWord w = true) : decodeWord w = .illegal w := if_pos h

theorem decodeWord_tickWord (z : Bool) : decodeWord (tickWord z) = tickInstr z := by
  cases z <;> rfl

theorem decodeWord_writeWord (a : Addr) (v : Reg16) : decodeWord (writeWord a v) = decodeWrite a v := by
  obtain ⟨hlegal, hop⟩ := writeWord_legal a v
  simp [decodeWord, hlegal, hop, addrField_writeWord, dataField_writeWord]

theorem readWord_legal : ∀ a : Addr, isIllegalWord (readWord a) = false := by decide

theorem decodeWord_readWord (a : Addr) : decodeWord (readWord a) = decodeRead a := by
  revert a; decide

theorem decodeWord_resetWord : decodeWord resetWord = .rst := by decide

/-- A WRITE row is encoded at the address that selects it (R59). -/
theorem encode_decodeWrite (a : Addr) (v : Reg16) : encode (decodeWrite a v) = .word (writeWord a v) := by
  obtain ⟨n, hn⟩ := a
  interval_cases n <;> rfl

/-- A READ row is encoded at the address that selects it (R60). -/
theorem encode_decodeRead (a : Addr) : encode (decodeRead a) = .word (readWord a) := by
  obtain ⟨n, hn⟩ := a
  interval_cases n <;> rfl

theorem decode_writeWord (a : Addr) (v : Reg16) : decode (.word (writeWord a v)) = .ok (decodeWrite a v) :=
  congrArg Except.ok (decodeWord_writeWord a v)

theorem decode_readWord (a : Addr) : decode (.word (readWord a)) = .ok (decodeRead a) :=
  congrArg Except.ok (decodeWord_readWord a)

theorem decode_ctrlState {i : Instr} {v : Reg8} {acc : Bool} (h : i = decodeCtrlState v acc) :
    decode (.ctrlState v acc) = .ok i :=
  congrArg Except.ok h.symm

/-- Settles O4, by the operations: a word of each format decodes to the row of its address, a dispatch value to the row that
it selects, and an illegal word to itself. -/
theorem decodeOfEncodeIsTheOperation : Obligations.DecodeOfEncodeIsTheOperation := by
  intro i hwf
  cases i with
  | tick0 => exact congrArg Except.ok (decodeWord_tickWord false)
  | tick1 => exact congrArg Except.ok (decodeWord_tickWord true)
  | wrDimTarget | wrMinDelay | wrMaxDelay | wrStatus | wrPhaseCnt | wrGuard | wrCalCnt | wrCalSum | wrCalIdx | wrForceState
  | wrUnmappedA | wrUnmappedB | wrUnmappedC | wrUnmappedD | wrUnmappedE | wrUnmappedF => exact decode_writeWord _ _
  | rdDimTarget | rdMinDelay | rdMaxDelay | rdStatus | rdPhaseCnt | rdGuard | rdCalCnt | rdCalSum | rdCalIdx | rdForceState
  | rdUnmappedA | rdUnmappedB | rdUnmappedC | rdUnmappedD | rdUnmappedE | rdUnmappedF => exact decode_readWord _
  | rst => exact congrArg Except.ok decodeWord_resetWord
  | calWaitLow1 | calWaitHigh | calWaitLow2 | calWaitRef | calCollect | calDone => rfl
  | pcIdle | pcOffset | pcDelay | pcTrigger => rfl
  | pcInvalid04 low => exact decode_ctrlState (decode_invalid04 low).1
  | pcInvalid08 low => exact decode_ctrlState (decode_invalid08 low).1
  | pcInvalid10 low => exact decode_ctrlState (decode_invalid10 low).1
  | pcInvalid20 low => exact decode_ctrlState (decode_invalid20 low).1
  | pcInvalid40 low => exact decode_ctrlState (decode_invalid40 low).1
  | pcInvalid80 low => exact decode_ctrlState (decode_invalid80 low).1
  | illegal w => exact congrArg Except.ok (decodeWord_illegal hwf)

theorem decodeWrite_wellFormed (a : Addr) (v : Reg16) : (decodeWrite a v).wellFormed = true := by
  obtain ⟨n, hn⟩ := a
  interval_cases n <;> rfl

theorem decodeRead_wellFormed : ∀ a : Addr, (decodeRead a).wellFormed = true := by decide

/-- Settles O5: a word is illegal and kept whole, or it is the word that its format writes. -/
theorem encodeOfDecodedWordIsTheWord : Obligations.EncodeOfDecodedWordIsTheWord := by
  intro w
  rcases word_cases w with hw | ⟨z, rfl⟩ | ⟨a, v, rfl⟩ | ⟨a, rfl⟩ | rfl
  · rw [decodeWord_illegal hw]; exact ⟨rfl, hw⟩
  · cases z <;> exact ⟨rfl, rfl⟩
  · rw [decodeWord_writeWord]; exact ⟨encode_decodeWrite a v, decodeWrite_wellFormed a v⟩
  · rw [decodeWord_readWord]; exact ⟨encode_decodeRead a, decodeRead_wellFormed a⟩
  · exact ⟨rfl, rfl⟩

/-! ### Illegal words (R63) -/

/-- No legal word decodes to ILLEGAL: the code of its operation would have to be illegal too. -/
theorem decodeWord_eq_illegal_iff (w : OpWord) : decodeWord w = .illegal w ↔ isIllegalWord w = true := by
  refine ⟨fun h => ?_, decodeWord_illegal⟩
  have hwf := (encodeOfDecodedWordIsTheWord w).2
  rwa [h] at hwf

/-- Settles O30: ILLEGAL by the reserved fields, and its effect by its own meaning. -/
theorem illegalWordsHaveNoEffect : Obligations.IllegalWordsHaveNoEffect := by
  intro s w hwf
  refine ⟨(decodeWord_eq_illegal_iff w).trans (isIllegalWord_iff w), (complete_of_wf hwf _).trans ?_⟩
  simp [State.setRdata, illegalRdata, isReadShaped, opField]

/-! ### The rows of the opcode table (R66) -/

/-- A row of TICK, READ or RESET leaves no bit free, so it covers one word; that word is legal and no WRITE. -/
theorem fixedRows_legal : ∀ r ∈ tickResetRows ++ readRows,
    r.mask = BitVec.allOnes 24 ∧ isIllegalWord r.pattern = false ∧ opField r.pattern ≠ 1 := by decide

theorem fixedRow_covers_iff {r : WordRow} (hr : r ∈ tickResetRows ++ readRows) (w : OpWord) :
    r.covers w = true ↔ w = r.pattern := by
  rw [WordRow.covers, (fixedRows_legal r hr).1, BitVec.and_allOnes, beq_iff_eq]

/-- A WRITE row fixes OP, the reserved bits and ADDR, and leaves DATA free. -/
theorem writeRows_pattern : ∀ r ∈ writeRows, r.mask = 0xFF0000 ∧ ∃ a, r.pattern = writeWord a 0 := by decide

theorem writeWord_masked (a : Addr) (v : Reg16) : writeWord a v &&& 0xFF0000 = writeWord a 0 := by
  apply BitVec.eq_of_getLsbD_eq
  intro i hi
  simp only [writeWord, BitVec.getLsbD_and, BitVec.getLsbD_append]
  interval_cases i <;> simp


theorem mem_wordRows {r : WordRow} : r ∈ wordRows ↔ r ∈ tickResetRows ++ readRows ∨ r ∈ writeRows := by
  simp only [wordRows, List.mem_append]
  tauto

/-- A WRITE row covers only WRITE words: a covered word has the row's OP, its ADDR and no reserved bit (R59). -/
theorem eq_writeWord_of_masked {w : OpWord} {a : Addr} (h : w &&& 0xFF0000 = writeWord a 0) :
    w = writeWord a (dataField w) := by
  have hhigh : w.extractLsb' 16 8 = 1#2 ++ 0#2 ++ a :=
    calc w.extractLsb' 16 8 = (w &&& 0xFF0000).extractLsb' 16 8 := by
          rw [BitVec.extractLsb'_and, show (0xFF0000 : OpWord).extractLsb' 16 8 = BitVec.allOnes 8 from rfl,
            BitVec.and_allOnes]
      _ = (writeWord a 0).extractLsb' 16 8 := by rw [h]
      _ = 1#2 ++ 0#2 ++ a := BitVec.extractLsb'_append_eq_left
  rw [writeWord, ← hhigh]
  exact (BitVec.extractLsb'_append_extractLsb' (w := 8) (len := 16)).symm

/-- No row covers an illegal word (R66). -/
theorem legal_of_covers {r : WordRow} (hr : r ∈ wordRows) {w : OpWord} (h : r.covers w = true) :
    isIllegalWord w = false := by
  rcases mem_wordRows.mp hr with hfixed | hwrite
  · rw [(fixedRow_covers_iff hfixed w).mp h]
    exact (fixedRows_legal r hfixed).2.1
  · obtain ⟨hmask, a, hpattern⟩ := writeRows_pattern r hwrite
    rw [WordRow.covers, hmask, hpattern, beq_iff_eq] at h
    rw [eq_writeWord_of_masked h]
    exact (writeWord_legal a _).1

/-- Whether a row covers a WRITE word does not depend on its DATA. -/
theorem covers_writeWord {r : WordRow} (hr : r ∈ wordRows) (a : Addr) (v : Reg16) :
    r.covers (writeWord a v) = r.covers (writeWord a 0) := by
  rcases mem_wordRows.mp hr with hfixed | hwrite
  · have hnot (u : Reg16) : r.covers (writeWord a u) = false := by
      rw [Bool.eq_false_iff, ne_eq, fixedRow_covers_iff hfixed]
      intro heq
      exact (fixedRows_legal r hfixed).2.2 (heq ▸ (writeWord_legal a u).2)
    rw [hnot, hnot]
  · rw [WordRow.covers, WordRow.covers, (writeRows_pattern r hwrite).1, writeWord_masked, writeWord_masked]

/-- The mnemonics of the rows that cover a word. -/
def coveringRows (w : OpWord) : List String := (wordRows.filter fun r => r.covers w).map WordRow.mnemonic

theorem coveringRows_illegal {w : OpWord} (hw : isIllegalWord w = true) : coveringRows w = [] := by
  rw [coveringRows, List.map_eq_nil_iff, List.filter_eq_nil_iff]
  intro r hr hcovers
  rw [legal_of_covers hr hcovers] at hw
  exact Bool.false_ne_true hw

theorem coveringRows_tickWord : ∀ z : Bool, coveringRows (tickWord z) = [(tickInstr z).mnemonic] := by decide

theorem coveringRows_writeWord_zero : ∀ a : Addr, coveringRows (writeWord a 0) = [(decodeWrite a 0).mnemonic] := by decide

theorem coveringRows_writeWord (a : Addr) (v : Reg16) : coveringRows (writeWord a v) = [(decodeWrite a v).mnemonic] := by
  have hrows : coveringRows (writeWord a v) = coveringRows (writeWord a 0) :=
    congrArg (List.map WordRow.mnemonic) (List.filter_congr fun r hr => covers_writeWord hr a v)
  have hmnemonic : (decodeWrite a v).mnemonic = (decodeWrite a 0).mnemonic := by
    obtain ⟨n, hn⟩ := a
    interval_cases n <;> rfl
  rw [hrows, hmnemonic, coveringRows_writeWord_zero]

theorem coveringRows_readWord : ∀ a : Addr, coveringRows (readWord a) = [(decodeRead a).mnemonic] := by decide

/-- Settles O6: no row covers an illegal word, and each legal word is covered by the row of its format and address alone. -/
theorem tableRowsAreTheDecoder : Obligations.TableRowsAreTheDecoder := by
  intro w
  show coveringRows w = _
  rcases word_cases w with hw | ⟨z, rfl⟩ | ⟨a, v, rfl⟩ | ⟨a, rfl⟩ | rfl
  · rw [if_pos hw, coveringRows_illegal hw]
  · rw [coveringRows_tickWord, decodeWord_tickWord]
    cases z <;> rfl
  · rw [coveringRows_writeWord, decodeWord_writeWord, (writeWord_legal a v).1]; rfl
  · rw [coveringRows_readWord, decodeWord_readWord, readWord_legal]; rfl
  · decide

/-! ### The dispatch values (R64 to R66) -/

/-- The values of CTRL_STATE: the four states, and the six runs of invalid values that the INVALID rows match (R65, R66). -/
theorem ctrlState_cases (v : Reg8) :
    v = 0 ∨ v = 1 ∨ v = 2 ∨ v = 3 ∨ v = 1#6 ++ v.setWidth 2 ∨ v = 1#5 ++ v.setWidth 3 ∨ v = 1#4 ++ v.setWidth 4 ∨
    v = 1#3 ++ v.setWidth 5 ∨ v = 1#2 ++ v.setWidth 6 ∨ v = 1#1 ++ v.setWidth 7 := by
  revert v; decide

/-- Only IDLE takes the accepted edge as an operand (R100). -/
theorem decodeCtrlState_of_ne_zero {v : Reg8} (hv : v ≠ 0) (acc : Bool) :
    decodeCtrlState v acc = decodeCtrlState v false := by
  simp only [decodeCtrlState, if_neg hv]

/-- `i` is the INVALID row of the value `v`: its code is `v`, its name is one of the six, and where it is selected it heals
(R66, R104). -/
def IsInvalidRow (v : Reg8) (i : Instr) : Prop :=
  encode i = .ctrlState v false ∧
  i.mnemonic ∈ ["PC.INVALID.04", "PC.INVALID.08", "PC.INVALID.10", "PC.INVALID.20", "PC.INVALID.40", "PC.INVALID.80"] ∧
  ∀ s, exec i s = completeRow (selectsCtrl v s) s (invalidStep s)

theorem isInvalidRow_decodeCtrlState {v : Reg8} (hv : 4 ≤ v.toNat) (acc : Bool) :
    IsInvalidRow v (decodeCtrlState v acc) := by
  rw [decodeCtrlState_of_ne_zero (by rintro rfl; exact absurd hv (by decide))]
  rcases ctrlState_cases v with rfl | rfl | rfl | rfl | h | h | h | h | h | h
  · exact absurd hv (by decide)
  · exact absurd hv (by decide)
  · exact absurd hv (by decide)
  · exact absurd hv (by decide)
  · rw [h, ← (decode_invalid04 _).1]; exact ⟨rfl, by simp [Instr.mnemonic], fun _ => rfl⟩
  · rw [h, ← (decode_invalid08 _).1]; exact ⟨rfl, by simp [Instr.mnemonic], fun _ => rfl⟩
  · rw [h, ← (decode_invalid10 _).1]; exact ⟨rfl, by simp [Instr.mnemonic], fun _ => rfl⟩
  · rw [h, ← (decode_invalid20 _).1]; exact ⟨rfl, by simp [Instr.mnemonic], fun _ => rfl⟩
  · rw [h, ← (decode_invalid40 _).1]; exact ⟨rfl, by simp [Instr.mnemonic], fun _ => rfl⟩
  · rw [h, ← (decode_invalid80 _).1]; exact ⟨rfl, by simp [Instr.mnemonic], fun _ => rfl⟩

/-- Settles O7, by evaluation of the decoder on the words. -/
theorem specWordsDecodeAsTheSpecSays : Obligations.SpecWordsDecodeAsTheSpecSays := by
  unfold Obligations.SpecWordsDecodeAsTheSpecSays
  decide

/-- Settles O8: the values below 4 by evaluation, the invalid ones by the row that they select. -/
theorem dispatchValuesSelectTheirRows : Obligations.DispatchValuesSelectTheirRows := by
  refine ⟨fun z ev acc => ⟨rfl, rfl, rfl, rfl, rfl, rfl, rfl, rfl⟩, fun acc => ⟨rfl, rfl, rfl, rfl⟩,
    fun v acc hv => ?_⟩
  obtain ⟨hcode, hmnemonic, -⟩ := isInvalidRow_decodeCtrlState hv acc
  exact ⟨hcode, hmnemonic⟩

/-! ### The dispatch rows on a state (R66, R70) -/

/-- The row that CTRL_STATE selects completes with the phase-control step of the state. -/
theorem exec_decodeCtrlState (acc : Bool) (s : State) :
    exec (decodeCtrlState s.ctrlState acc) s = completeRow (selectsCtrl s.ctrlState s) s (phaseStep acc s) := by
  by_cases hv : 4 ≤ s.ctrlState.toNat
  · rw [(isInvalidRow_decodeCtrlState hv acc).2.2, phaseStep_invalid hv]
  have hlow : s.ctrlState = 0 ∨ s.ctrlState = 1 ∨ s.ctrlState = 2 ∨ s.ctrlState = 3 := by bv_omega
  rcases hlow with h | h | h | h
  · rw [phaseStep_idle h, h]; rfl
  · rw [phaseStep_offset h, h]; rfl
  · rw [phaseStep_delay h, h]; rfl
  · rw [phaseStep_trigger h, h]; rfl

/-- Settles O17: both rows are selected, and both complete with the same phase-control step. -/
theorem doneGoesOnToTheCtrlStateRow : Obligations.DoneGoesOnToTheCtrlStateRow := by
  intro s acc hwf hdone
  refine ⟨phaseStep acc s, ?_, ?_⟩
  · exact completeRow_eq_next.mpr ⟨selectsCal_iff.mpr hdone, hwf, rfl⟩
  · rw [exec_decodeCtrlState]
    exact completeRow_eq_next.mpr ⟨selectsCtrl_iff.mpr ⟨hdone, rfl⟩, hwf, rfl⟩

theorem completeRow_of_unselected {b : Bool} (h : ¬ b = true) (s t : State) :
    completeRow b s t = .refused .rowNotSelected := if_neg h

/-- A CAL_PHASE row carries the code of a phase, and completes where that phase stands. -/
theorem calRow_exec {i : Instr} (h : i.format = .calPhase) :
    ∃ p z ev acc, encode i = .calPhase p.code z ev acc ∧ ∀ s, ∃ t, exec i s = completeRow (selectsCal p s) s t := by
  cases i <;> cases h
  case calWaitLow1 z => exact ⟨.waitLow1, z, false, false, rfl, fun _ => ⟨_, rfl⟩⟩
  case calWaitHigh z => exact ⟨.waitHigh, z, false, false, rfl, fun _ => ⟨_, rfl⟩⟩
  case calWaitLow2 z => exact ⟨.waitLow2, z, false, false, rfl, fun _ => ⟨_, rfl⟩⟩
  case calWaitRef ev => exact ⟨.waitRef, false, ev, false, rfl, fun _ => ⟨_, rfl⟩⟩
  case calCollect ev => exact ⟨.collect, false, ev, false, rfl, fun _ => ⟨_, rfl⟩⟩
  case calDone acc => exact ⟨.done, false, false, acc, rfl, fun _ => ⟨_, rfl⟩⟩

/-- A CTRL_STATE row carries a value, and completes in RUN mode where that value stands. -/
theorem ctrlRow_exec {i : Instr} (h : i.format = .ctrlState) :
    ∃ v acc, encode i = .ctrlState v acc ∧ ∀ s, ∃ t, exec i s = completeRow (selectsCtrl v s) s t := by
  cases i <;> cases h
  all_goals exact ⟨_, _, rfl, fun _ => ⟨_, rfl⟩⟩

/-- Settles O23: a row's code names what selects it, so a state with another code does not select the row. -/
theorem unselectedRowsAreRefused : Obligations.UnselectedRowsAreRefused := by
  refine fun s i => ⟨fun hformat hcode => ?_, fun hformat hcode => ?_⟩
  · obtain ⟨p, z, ev, acc, hp, hexec⟩ := calRow_exec hformat
    obtain ⟨t, ht⟩ := hexec s
    rw [ht, completeRow_of_unselected]
    rw [selectsCal_iff]
    rintro rfl
    exact hcode z ev acc hp
  · obtain ⟨v, acc, hv, hexec⟩ := ctrlRow_exec hformat
    obtain ⟨t, ht⟩ := hexec s
    rw [ht, completeRow_of_unselected]
    rw [selectsCtrl_iff]
    rintro ⟨hdone, rfl⟩
    exact hcode.elim (fun hcal => hcal hdone) fun hne => hne acc hv

/-! ### The assembler (R67, R68) -/

theorem shiftedAddr_write (a : Addr) (v : Reg16) : 0x400000#24 ||| shiftedAddr a ||| v.setWidth 24 = writeWord a v := by
  apply BitVec.eq_of_getLsbD_eq
  intro i hi
  simp only [writeWord, shiftedAddr, BitVec.getLsbD_or, BitVec.getLsbD_append]
  interval_cases i <;> simp

theorem shiftedAddr_read : ∀ a : Addr, 0x800000#24 ||| shiftedAddr a = readWord a := by decide

theorem assembleWr_eq (r : RegRef) (v : Nat) :
    assembleWr r v = (regAddr r).bind fun a => (dataOf v).map fun d => [writeWord a d] := by
  unfold assembleWr
  cases regAddr r <;> cases dataOf v <;> simp [shiftedAddr_write]

theorem assemble_rd (r : RegRef) : assemble (.rd r) = (regAddr r).map fun a => [readWord a] := by
  simp only [assemble, shiftedAddr_read]

/-- A name stands for its address as its number does (R67). -/
theorem regAddr_named : ∀ r ∈ registerNames, regAddr (.named r.1) = regAddr (.number r.2.toNat) := by decide

theorem assembleWr_congr {r q : RegRef} (h : regAddr r = regAddr q) (v : Nat) : assembleWr r v = assembleWr q v := by
  rw [assembleWr_eq, assembleWr_eq, h]

/-- WR of a numbered register: in range it is the WRITE word, and otherwise it is rejected (R67). -/
theorem assemble_wr_number (n v : Nat) :
    assemble (.wr (.number n) v) =
      if n < 16 ∧ v ≤ 0xFFFF then some [writeWord (BitVec.ofNat 4 n) (BitVec.ofNat 16 v)] else none := by
  rw [assemble, assembleWr_eq]
  by_cases hn : n < 16 <;> by_cases hv : v ≤ 0xFFFF <;> simp [regAddr, dataOf, hn, hv]

theorem assemble_rd_number (n : Nat) :
    assemble (.rd (.number n)) = if n < 16 then some [readWord (BitVec.ofNat 4 n)] else none := by
  rw [assemble_rd]
  by_cases hn : n < 16 <;> simp [regAddr, hn]

/-- TICK takes the levels 0 and 1 and no other (R67). -/
theorem assemble_tick (z : Nat) :
    assemble (.tick z) = if z = 0 then some [0x000000] else if z = 1 then some [0x000001] else none := by
  match z with
  | 0 => rfl
  | 1 => rfl
  | n + 2 => rfl

/-- Settles O60: the lines by their own equations; the pseudo-instructions of WR by the address that their name stands for. -/
theorem assemblerGivesTheWords : Obligations.AssemblerGivesTheWords := by
  have hdim : regAddr (.named "DIM_TARGET") = regAddr (.number 0) := regAddr_named ("DIM_TARGET", 0) (by decide)
  have hforce : regAddr (.named "FORCE_STATE") = regAddr (.number 9) := regAddr_named ("FORCE_STATE", 9) (by decide)
  refine ⟨fun n v => ⟨assemble_wr_number n v, assemble_rd_number n, assemble_tick v, rfl, rfl, rfl,
    assembleWr_congr hdim v, ?_⟩, fun h l k => rfl, rfl, by decide, fun r v hr => ⟨?_, ?_⟩⟩
  · simp only [assemble, assembleWr_congr hforce]
  · exact assembleWr_congr (regAddr_named r hr) v
  · rw [assemble_rd, assemble_rd, regAddr_named r hr]

end Sys2Proof.Machine
end

section
/-!
Family 40_tick.md: a TICK as the row that its pre-tick state selects, run on the updated state (R66, R69), the one machine
that it steps (R70), and the elements read back from the sixteen READs (R74).
-/

namespace Sys2Proof.Machine

/-! ### A TICK and the row that it runs (R66, R69, R70) -/

theorem setRdata_of_rdata {s : State} {r : Option Reg16} (h : s.rdata = r) : s.setRdata r = s := by
  subst h; rfl

theorem modeDispatch_cal {s : State} (h : s.calPhase ≠ .done) (z ev acc : Bool) :
    modeDispatch z ev acc s = calStep z ev s :=
  if_neg (mt mode_iff.mp h)

theorem modeDispatch_run {s : State} (h : s.calPhase = .done) (z ev acc : Bool) :
    modeDispatch z ev acc s = phaseStep acc s :=
  if_pos (mode_iff.mpr h)

/-- Neither machine returns anything to the host. -/
theorem modeDispatch_rdata (z ev acc : Bool) (s : State) : (modeDispatch z ev acc s).rdata = s.rdata := by
  by_cases h : s.calPhase = .done
  · rw [modeDispatch_run h, phaseStep_frame]
  · rw [modeDispatch_cal h, calStep_frame]

/-- What was returned before a TICK can be cleared ahead of the mode dispatch, since no step reads or writes it. -/
theorem tick_eq_modeDispatch (z : Bool) (s : State) :
    tick z s = modeDispatch z (calEvent z s) (accept z s) ((edgeStep z s).setRdata none) :=
  calc tick z s
    _ = tick z (s.setRdata none) := (tick_setRdata z s none).symm
    _ = (modeDispatch z (calEvent z s) (accept z s) ((edgeStep z s).setRdata none)).setRdata none := rfl
    _ = modeDispatch z (calEvent z s) (accept z s) ((edgeStep z s).setRdata none) :=
      setRdata_of_rdata (modeDispatch_rdata z _ _ _)

theorem completeRow_of_calPhase {s : State} {p : CalPhase} (h : s.calPhase = p) (t : State) :
    completeRow (selectsCal p s) s t = complete s t := by
  rw [selectsCal_iff.mpr h, completeRow_of_selected]

/-- In CAL mode the row that CAL_PHASE selects completes with the calibration step of the state. -/
theorem exec_of_decodeCalPhase {s : State} {z ev acc : Bool} {i : Instr} (hcal : s.calPhase ≠ .done)
    (hi : decodeCalPhase s.calPhase.code z ev acc = .ok i) : exec i s = complete s (calStep z ev s) := by
  cases hs : s.calPhase <;> rw [hs] at hi <;> injection hi with hi <;> subst hi
  case waitLow1 => rw [calStep_waitLow1 hs]; exact completeRow_of_calPhase hs _
  case waitHigh => rw [calStep_waitHigh hs]; exact completeRow_of_calPhase hs _
  case waitLow2 => rw [calStep_waitLow2 hs]; exact completeRow_of_calPhase hs _
  case waitRef => rw [calStep_waitRef hs]; exact completeRow_of_calPhase hs _
  case collect => rw [calStep_collect hs]; exact completeRow_of_calPhase hs _
  case done => exact absurd hs hcal

/-- In RUN mode the row that CTRL_STATE selects completes with the phase-control step of the state. -/
theorem exec_decodeCtrlState_of_run {s : State} (hdone : s.calPhase = .done) (acc : Bool) :
    exec (decodeCtrlState s.ctrlState acc) s = complete s (phaseStep acc s) := by
  rw [exec_decodeCtrlState, selectsCtrl_iff.mpr ⟨hdone, rfl⟩, completeRow_of_selected]

/-- Settles O12: the every-tick updates leave CAL_PHASE and CTRL_STATE, so the updated state selects the same row, which
completes with the step that the mode dispatch takes. -/
theorem tickRunsTheRowItsStateSelects : Obligations.TickRunsTheRowItsStateSelects := by
  intro s u z i hwf hu hcal hdone
  have hstate : u = (edgeStep z s).setRdata none := hu
  have hcfg : u.cfg = s.cfg := by rw [hu]; rfl
  have hphase : u.calPhase = s.calPhase := by rw [hu]; rfl
  have hctrl : u.ctrlState = s.ctrlState := by rw [hu]; rfl
  have htick : exec (tickInstr z) s = complete u (modeDispatch z (calEvent z s) (accept z s) u) := by
    rw [exec_tickInstr, tick_eq_modeDispatch, ← hstate, complete_of_wf hwf, complete_of_wf (hcfg ▸ hwf)]
  rw [htick]
  by_cases hs : s.calPhase = .done
  · rw [modeDispatch_run (hphase.trans hs), hdone hs, ← hctrl, exec_decodeCtrlState_of_run (hphase.trans hs)]
  · have hrow := hcal hs
    rw [← hphase] at hs hrow
    rw [modeDispatch_cal hs, exec_of_decodeCalPhase hs hrow]

/-- Settles O13: the mode picks the machine that steps, and the frame of its step holds the elements of the other. -/
theorem tickRunsOneMachineOnly : Obligations.TickRunsOneMachineOnly := by
  intro s t z h
  rw [exec_tickInstr] at h
  obtain ⟨-, rfl⟩ := complete_eq_next.mp h
  refine ⟨fun hcal => ?_, fun hdone => ?_⟩
  · rw [tick_cal hcal, calStep_frame]
    exact ⟨rfl, rfl, rfl, rfl⟩
  · rw [tick_run hdone, phaseStep_frame]
    exact ⟨rfl, rfl, rfl, rfl, rfl, rfl⟩

/-! ### The elements read back (R74) -/

/-- Putting the value of a phase into CAL_PHASE puts that phase there (R64). -/
theorem withCalPhaseValue_code (s : State) (p : CalPhase) : withCalPhaseValue s p.code = s.setCalPhase p := by
  cases p <;> rfl

theorem calPhase_code_injective : Function.Injective CalPhase.code := by
  intro p q h
  have hset := congrArg (withCalPhaseValue State.reset) h
  rw [withCalPhaseValue_code, withCalPhaseValue_code] at hset
  exact congrArg State.calPhase hset

/-- CAL_IDX is read with a zero byte above it, which loses nothing (R127). -/
theorem calIdxWord_calIdx (s : State) : (calIdxWord s).setWidth 8 = s.calIdx :=
  BitVec.setWidth_append_eq_right

/-- STATUS tells the five elements that it is made of (R33). -/
theorem elements_of_statusWord_eq {s t : State} (h : statusWord t = statusWord s) :
    t.ctrlState = s.ctrlState ∧ t.zcPrev = s.zcPrev ∧ t.heartbeat = s.heartbeat ∧ t.gate = s.gate ∧
      t.calPhase = s.calPhase := by
  obtain ⟨-, hzc, hheartbeat, hgate, -⟩ := statusWord_bits s
  obtain ⟨-, hzc', hheartbeat', hgate', -⟩ := statusWord_bits t
  have hcode : t.calPhase.code = s.calPhase.code := by rw [← statusWord_calPhase, h, statusWord_calPhase]
  rw [← statusWord_ctrlState, ← hzc', ← hheartbeat', ← hgate', h]
  exact ⟨statusWord_ctrlState s, hzc, hheartbeat, hgate, calPhase_code_injective hcode⟩

/-- Under a well-formed configuration a READ returns its register. -/
theorem hostRegister_of_read {a : Addr} {s : State} {v : Reg16} (hwf : s.cfg.WF)
    (h : exec (decodeRead a) s = .next (s.setRdata (some v))) : hostRegister a s = v := by
  rw [exec_decodeRead, complete_of_wf hwf] at h
  injection h with h
  exact Option.some.inj (congrArg State.rdata h)

/-- The nine registers that hold state make up all elements (R32, R74). -/
theorem sameElements_of_hostRegister_eq {s t : State} (h : ∀ a, hostRegister a t = hostRegister a s) :
    sameElements s t := by
  obtain ⟨hctrl, hzc, hheartbeat, hgate, hphase⟩ := elements_of_statusWord_eq (h 3)
  have hidx : t.calIdx = s.calIdx := by
    rw [← calIdxWord_calIdx, show calIdxWord t = calIdxWord s from h 8, calIdxWord_calIdx]
  exact ⟨hzc, h 5, hphase, h 6, h 7, hidx, h 1, h 2, hctrl, h 4, hgate, hheartbeat, h 0⟩

/-- Settles O40: equal RDATA at an address are equal registers, and the registers hold all elements. -/
theorem readsRevealAllState : Obligations.ReadsRevealAllState := by
  intro s t hs ht hreads
  refine sameElements_of_hostRegister_eq fun a => ?_
  obtain ⟨v, hreadS, hreadT⟩ := hreads a
  rw [hostRegister_of_read hs hreadS, hostRegister_of_read ht hreadT]

end Sys2Proof.Machine
end

section
/-!
Family 41_edge_noise.md: the edge detector and the noise gate (R75 to R78). What a TICK leaves of ZC_PREV and GUARD, what any
word does to GUARD, and from these, along a run, the spacing of accepted edges (R80) and the long absence (R82).
-/

namespace Sys2Proof.Machine

/-! ### Acceptance (R77) -/

theorem accept_iff {z : Bool} {s : State} :
    accept z s = true ↔ z = true ∧ s.zcPrev = false ∧ s.cfg.minZcPeriod < s.guard.toNat := by
  simp [accept, rising, and_assoc]

theorem accept_of_guard_le {s : State} (h : s.guard.toNat ≤ s.cfg.minZcPeriod) (z : Bool) : accept z s = false := by
  rw [← Bool.not_eq_true, accept_iff]
  rintro ⟨-, -, hgt⟩
  exact absurd h (not_le.mpr hgt)

/-! ### What a TICK leaves of the edge detector and the noise gate (R76, R78) -/

/-- Neither machine writes ZC_PREV, GUARD or DIM_TARGET, the configuration or the stream (R69). -/
theorem modeDispatch_frame (z ev acc : Bool) (s : State) :
    (modeDispatch z ev acc s).zcPrev = s.zcPrev ∧ (modeDispatch z ev acc s).guard = s.guard ∧
    (modeDispatch z ev acc s).dimTarget = s.dimTarget ∧ (modeDispatch z ev acc s).cfg = s.cfg ∧
    (modeDispatch z ev acc s).ops = s.ops := by
  by_cases h : s.calPhase = .done
  · rw [modeDispatch_run h, phaseStep_frame]
    exact ⟨rfl, rfl, rfl, rfl, rfl⟩
  · rw [modeDispatch_cal h, calStep_frame]
    exact ⟨rfl, rfl, rfl, rfl, rfl⟩

theorem tick_guard (z : Bool) (s : State) : (tick z s).guard = if accept z s then 0 else satInc16 s.guard := by
  obtain ⟨-, hguard, -⟩ := modeDispatch_frame z (calEvent z s) (accept z s) (edgeStep z s)
  exact hguard

theorem tick_guard_of_accept {z : Bool} {s : State} (h : accept z s = true) : (tick z s).guard = 0 := by
  rw [tick_guard, if_pos h]

theorem tick_guard_of_not_accept {z : Bool} {s : State} (h : accept z s = false) :
    (tick z s).guard.toNat = min 0xFFFF (s.guard.toNat + 1) := by
  rw [tick_guard, if_neg (Bool.eq_false_iff.mp h), satInc16_toNat]

/-- Settles O11: the every-tick updates, which the step of either machine leaves as they are. -/
theorem tickUpdatesZcPrevAndGuard : Obligations.TickUpdatesZcPrevAndGuard := by
  intro s z hwf
  obtain ⟨hzc, -, hdim, hcfg, hops⟩ := modeDispatch_frame z (calEvent z s) (accept z s) (edgeStep z s)
  obtain ⟨hsat, -, -⟩ := primitivesAreThoseOfR10
  have hexec : exec (tickInstr z) s = .next (tick z s) := by rw [exec_tickInstr, complete_of_wf hwf]
  refine ⟨tick z s, hexec, hzc, ?_, hdim, rfl, hcfg, hops⟩
  by_cases hacc : accept z s = true
  · rw [tick_guard_of_accept hacc, if_pos (accept_iff.mp hacc)]
    rfl
  · rw [tick_guard, if_neg hacc, if_neg (mt accept_iff.mpr hacc), hsat]

/-! ### What a word does to GUARD -/

/-- The TICK words are the legal words whose OP is TICK (R58, R63). -/
theorem isTickWord_iff (w : OpWord) : isTickWord w = true ↔ isIllegalWord w = false ∧ opField w = 0 := by
  constructor
  · intro h
    rcases (Bool.or_eq_true _ _).mp h with h | h <;> rw [beq_iff_eq.mp h] <;> decide
  · rintro ⟨hlegal, hop⟩
    have hzero : w.extractLsb' 1 21 = 0 := by
      by_contra hne
      rw [(isIllegalWord_iff w).mpr (.inl ⟨hop, hne⟩)] at hlegal
      cases hlegal
    have hword : w = tickWord (zcField w) := by
      have heq := word_eq_tickFields w
      rw [hop, hzero] at heq
      exact heq.symm
    rw [hword]
    cases zcField w <;> decide

/-- A word is a TICK, or it is RST and clears GUARD, or it leaves GUARD as it is. -/
theorem wordStep_guard_cases (s : State) (w : OpWord) :
    (isTickWord w = true ∧ wordStep s w = tick (zcField w) s) ∨
    (isTickWord w = false ∧ decodeWord w = .rst ∧ (wordStep s w).guard = 0) ∨
    (isTickWord w = false ∧ (wordStep s w).guard = s.guard) := by
  have hnot : ¬ (isIllegalWord w = false ∧ opField w = 0) → isTickWord w = false := fun h =>
    Bool.eq_false_iff.mpr (mt (isTickWord_iff w).mp h)
  rcases wordStep_cases w with ⟨hw, h⟩ | ⟨hw, hop, h⟩ | ⟨hw, hop, h⟩ | ⟨hw, hop, h⟩ | ⟨hw, hop, h⟩ <;> rw [h]
  · exact .inr (.inr ⟨hnot (by simp [hw]), rfl⟩)
  · exact .inl ⟨(isTickWord_iff w).mpr ⟨hw, hop⟩, rfl⟩
  · refine .inr (.inr ⟨hnot (by simp [hop]), ?_⟩)
    rcases hostRegisterWrite_cases (addrField w) (dataField w) s with ⟨-, h⟩ | ⟨-, h⟩ | ⟨-, -, h⟩ <;>
      rw [hostWrite, h] <;> rfl
  · exact .inr (.inr ⟨hnot (by simp [hop]), rfl⟩)
  · exact .inr (.inl ⟨hnot (by simp [hop]), by simp [decodeWord, hw, hop], rfl⟩)

/-- A TICK adds at most 1 to GUARD, and no other word adds to it. -/
theorem wordStep_guard_le (s : State) (w : OpWord) :
    (wordStep s w).guard.toNat ≤ s.guard.toNat + if isTickWord w then 1 else 0 := by
  rcases wordStep_guard_cases s w with ⟨hw, h⟩ | ⟨-, -, h⟩ | ⟨-, h⟩ <;> rw [h]
  · rw [if_pos hw]
    cases hacc : accept (zcField w) s
    · rw [tick_guard_of_not_accept hacc]; exact min_le_right _ _
    · rw [tick_guard_of_accept hacc]; exact Nat.zero_le _
  · exact Nat.zero_le _
  · exact Nat.le_add_right _ _

/-- A word that is not RST and accepts no edge adds 1 to GUARD, up to 0xFFFF, exactly where it is a TICK. -/
theorem wordStep_guard_eq {s : State} {w : OpWord} (hrst : decodeWord w ≠ .rst) (hacc : acceptsAt w s = false) :
    (wordStep s w).guard.toNat = min 0xFFFF (s.guard.toNat + if isTickWord w then 1 else 0) := by
  rcases wordStep_guard_cases s w with ⟨hw, h⟩ | ⟨-, hdecode, -⟩ | ⟨hw, h⟩
  · have hgate : accept (zcField w) s = false := by simpa [acceptsAt, hw] using hacc
    rw [h, if_pos hw, tick_guard_of_not_accept hgate]
  · exact absurd hdecode hrst
  · have hlt := s.guard.isLt
    rw [h, hw, if_neg Bool.false_ne_true]
    omega

/-! ### GUARD along a run -/

theorem foldl_wordStep_cfg (ws : List OpWord) : ∀ {s : State}, s.cfg.WF → (ws.foldl wordStep s).cfg = s.cfg := by
  induction ws with
  | nil => exact fun _ => rfl
  | cons w ws ih =>
    intro s h
    have hcfg := wordStep_cfg_of_wf h w
    rw [List.foldl_cons, ih (hcfg.symm ▸ h), hcfg]

theorem ticksIn_cons (w : OpWord) (ws : List OpWord) :
    ticksIn (w :: ws) = ticksIn ws + if isTickWord w then 1 else 0 :=
  List.countP_cons

/-- Along any run GUARD grows by at most the number of TICKs. -/
theorem foldl_wordStep_guard_le (ws : List OpWord) : ∀ s : State,
    (ws.foldl wordStep s).guard.toNat ≤ s.guard.toNat + ticksIn ws := by
  induction ws with
  | nil => exact fun _ => le_refl _
  | cons w ws ih =>
    intro s
    calc (ws.foldl wordStep (wordStep s w)).guard.toNat
      _ ≤ (wordStep s w).guard.toNat + ticksIn ws := ih _
      _ ≤ s.guard.toNat + ticksIn (w :: ws) := by
        have hstep := wordStep_guard_le s w
        rw [ticksIn_cons]; omega

/-- MIN_ZC_PERIOD TICKs after GUARD was 0 it still rejects every edge (R80). -/
theorem accept_false_of_few_ticks {s : State} {ws : List OpWord} (hwf : s.cfg.WF) (hzero : s.guard = 0)
    (hticks : ticksIn ws ≤ s.cfg.minZcPeriod) (z : Bool) : accept z (ws.foldl wordStep s) = false := by
  apply accept_of_guard_le
  have hstart : s.guard.toNat = 0 := by rw [hzero]; rfl
  rw [foldl_wordStep_cfg ws hwf]
  calc (ws.foldl wordStep s).guard.toNat
    _ ≤ s.guard.toNat + ticksIn ws := foldl_wordStep_guard_le ws s
    _ ≤ s.cfg.minZcPeriod := by omega

/-- Settles O47: the accepting TICK and reset both leave GUARD at 0. -/
theorem acceptedEdgesAreSpaced : Obligations.AcceptedEdgesAreSpaced := by
  intro s ws z hwf hticks
  refine ⟨fun hprev hguard => ⟨_, runWords_of_wf _ hwf, ?_⟩,
    ⟨_, runWords_of_wf ws hwf, accept_false_of_few_ticks (s := State.resetOf s.cfg) hwf rfl hticks z⟩⟩
  rw [List.foldl_cons, wordStep_tickWord]
  have hcfg : (tick true s).cfg = s.cfg := wordStep_cfg_of_wf hwf (tickWord true)
  have hzero : (tick true s).guard = 0 := tick_guard_of_accept (accept_iff.mpr ⟨rfl, hprev, hguard⟩)
  exact accept_false_of_few_ticks (hcfg.symm ▸ hwf) hzero (hcfg.symm ▸ hticks) z

theorem countDuring_cons {s : State} (hwf : s.cfg.WF) (p : OpWord → State → Bool) (w : OpWord) (ws : List OpWord) :
    countDuring p (w :: ws) s = (if p w s then 1 else 0) + countDuring p ws (wordStep s w) := by
  rw [countDuring, exec_decodeWord, complete_of_wf hwf]

theorem countDuring_cons_eq_zero {s : State} (hwf : s.cfg.WF) {p : OpWord → State → Bool} {w : OpWord} {ws : List OpWord} :
    countDuring p (w :: ws) s = 0 ↔ p w s = false ∧ countDuring p ws (wordStep s w) = 0 := by
  rw [countDuring_cons hwf, Nat.add_eq_zero_iff]
  simp

/-- Without RST and accepted edges GUARD counts the TICKs of a run, up to 0xFFFF (R78). -/
theorem foldl_wordStep_guard_eq (ws : List OpWord) : ∀ {s : State}, s.cfg.WF → (∀ w ∈ ws, decodeWord w ≠ .rst) →
    countDuring acceptsAt ws s = 0 →
    (ws.foldl wordStep s).guard.toNat = min 0xFFFF (s.guard.toNat + ticksIn ws) := by
  induction ws with
  | nil =>
    intro s _ _ _
    exact (min_eq_right (Nat.le_of_lt_succ s.guard.isLt)).symm
  | cons w ws ih =>
    intro s hwf hrst hcount
    obtain ⟨hw, hws⟩ := List.forall_mem_cons.mp hrst
    obtain ⟨hacc, hrest⟩ := (countDuring_cons_eq_zero hwf).mp hcount
    rw [List.foldl_cons, ih ((wordStep_cfg_of_wf hwf w).symm ▸ hwf) hws hrest, wordStep_guard_eq hw hacc, ticksIn_cons]
    omega

/-- Settles O48: GUARD counts the TICKs, and at 0xFFFF it is above every MIN_ZC_PERIOD of R7. -/
theorem guardCountsAndSaturates : Obligations.GuardCountsAndSaturates := by
  intro s ws hwf hnorst hcount
  have hrst : ∀ w ∈ ws, decodeWord w ≠ .rst := by
    intro w hw heq
    have h := List.all_eq_true.mp hnorst w hw
    rw [heq] at h
    cases h
  have hguard := foldl_wordStep_guard_eq ws hwf hrst hcount
  refine ⟨_, runWords_of_wf ws hwf, hguard, fun hlong hlow => accept_iff.mpr ⟨rfl, hlow, ?_⟩⟩
  rw [foldl_wordStep_cfg ws hwf, hguard]
  obtain ⟨-, -, -, hmin, -⟩ := hwf
  omega

end Sys2Proof.Machine
end

section
/-!
Family 42_calibration.md: the rows of the calibration sequencer as equations (R85 to R93), what a TICK and a word make of the
calibration elements, and from these the invariant of accepted edges (R96), the stall without edges (R95) and the bounds (R94).
-/

namespace Sys2Proof.Machine

/-! ### The rows as equations (R85 to R89) -/

theorem calStep_of_waitLow1 {s : State} (hs : s.calPhase = .waitLow1) (z ev : Bool) :
    calStep z ev s = { s with calCnt := satInc16 s.calCnt, calPhase := if z then .waitLow1 else .waitHigh } := by
  rw [calStep_waitLow1 hs]
  cases z
  · rfl
  · rw [if_pos rfl, ← hs]; rfl

theorem calStep_of_waitHigh {s : State} (hs : s.calPhase = .waitHigh) (z ev : Bool) :
    calStep z ev s = { s with calCnt := satInc16 s.calCnt, calPhase := if z then .waitLow2 else .waitHigh } := by
  rw [calStep_waitHigh hs]
  cases z
  · rw [if_neg Bool.false_ne_true, ← hs]; rfl
  · rfl

theorem calStep_of_waitLow2 {s : State} (hs : s.calPhase = .waitLow2) (z ev : Bool) :
    calStep z ev s = { s with calCnt := satInc16 s.calCnt, calPhase := if z then .waitLow2 else .waitRef } := by
  rw [calStep_waitLow2 hs]
  cases z
  · rfl
  · rw [if_pos rfl, ← hs]; rfl

theorem calStep_of_waitRef_event {s : State} (hs : s.calPhase = .waitRef) (z : Bool) :
    calStep z true s = { s with calCnt := 0, calSum := 0, calIdx := 0, calPhase := .collect } := by
  rw [calStep_waitRef hs]; rfl

theorem calStep_of_waitRef_quiet {s : State} (hs : s.calPhase = .waitRef) (z : Bool) :
    calStep z false s = { s with calCnt := satInc16 s.calCnt } := by
  rw [calStep_waitRef hs]; rfl

theorem calStep_of_collect_quiet {s : State} (hs : s.calPhase = .collect) (z : Bool) :
    calStep z false s = { s with calCnt := satInc16 s.calCnt } := by
  rw [calStep_collect hs]; rfl

theorem validSample_iff {c : Config} {n : Nat} : validSample c n = true ↔ c.calWinLo ≤ n ∧ n ≤ c.calWinHi := by
  simp [validSample]

theorem calStep_of_collect_invalid {s : State} (hs : s.calPhase = .collect) (z : Bool)
    (hn : ¬ (s.cfg.calWinLo ≤ (satInc16 s.calCnt).toNat ∧ (satInc16 s.calCnt).toNat ≤ s.cfg.calWinHi)) :
    calStep z true s = { s with calCnt := 0 } := by
  rw [calStep_collect hs]
  rcases collectStep_cases true s with ⟨hev, -⟩ | ⟨-, -, h⟩ | ⟨-, hvalid, -⟩
  · cases hev
  · exact h
  · exact absurd (validSample_iff.mp hvalid) hn

theorem calStep_of_collect_valid {s : State} (hs : s.calPhase = .collect) (z : Bool)
    (hn : s.cfg.calWinLo ≤ (satInc16 s.calCnt).toNat ∧ (satInc16 s.calCnt).toNat ≤ s.cfg.calWinHi) :
    calStep z true s = takeSample (satInc16 s.calCnt).toNat { s with calCnt := 0 } := by
  rw [calStep_collect hs]
  rcases collectStep_cases true s with ⟨hev, -⟩ | ⟨-, hinvalid, -⟩ | ⟨-, -, h⟩
  · cases hev
  · rw [validSample_iff.mpr hn] at hinvalid; cases hinvalid
  · exact h

/-- Whether it publishes or not, a sample adds to the sum and the count and leaves CAL_CNT (R89). -/
theorem takeSample_counters (n : Nat) (s : State) :
    (takeSample n s).calCnt = s.calCnt ∧ (takeSample n s).calSum = narrowCalSum (s.calSum.toNat + n) ∧
    (takeSample n s).calIdx = narrowCalIdx (s.calIdx.toNat + 1) := by
  rcases takeSample_cases n s with ⟨-, h⟩ | ⟨-, h⟩ <;> rw [h] <;> exact ⟨rfl, rfl, rfl⟩

/-- The row that a CAL mode state selects, as an operation: it completes with the calibration step. -/
theorem exec_calRow {s : State} {z ev : Bool} {i : Instr} (hwf : s.cfg.WF) (hcal : s.calPhase ≠ .done)
    (hi : decodeCalPhase s.calPhase.code z ev false = .ok i) : exec i s = .next (calStep z ev s) := by
  rw [exec_of_decodeCalPhase hcal hi, complete_of_wf hwf]

/-- Settles O14: each row by its equation. -/
theorem waitRowsFollowTheRawLevel : Obligations.WaitRowsFollowTheRawLevel := by
  refine fun s z hwf => ⟨fun hs => ?low1, fun hs => ?high, fun hs => ?low2⟩
  case low1 =>
    rw [← calStep_of_waitLow1 hs z false]
    exact exec_calRow hwf (by simp [hs]) (by rw [hs]; rfl)
  case high =>
    rw [← calStep_of_waitHigh hs z false]
    exact exec_calRow hwf (by simp [hs]) (by rw [hs]; rfl)
  case low2 =>
    rw [← calStep_of_waitLow2 hs z false]
    exact exec_calRow hwf (by simp [hs]) (by rw [hs]; rfl)

/-- Settles O15: the row's equations with and without the edge event. -/
theorem waitRefTakesTheReferenceEdge : Obligations.WaitRefTakesTheReferenceEdge := by
  refine fun s hwf hs => ⟨?edge, ?quiet⟩
  case edge =>
    rw [← calStep_of_waitRef_event hs false]
    exact exec_calRow hwf (by simp [hs]) (by rw [hs]; rfl)
  case quiet =>
    rw [← calStep_of_waitRef_quiet hs false]
    exact exec_calRow hwf (by simp [hs]) (by rw [hs]; rfl)

/-- Settles O16: the row's three equations; a valid sample then publishes or not, and what is narrowed is what fits. -/
theorem collectMeasuresAndPublishes : Obligations.CollectMeasuresAndPublishes := by
  intro s sample hwf hs hsample
  have hexec : ∀ ev, exec (.calCollect ev) s = .next (calStep false ev s) := fun ev =>
    exec_calRow hwf (by simp [hs]) (by rw [hs]; rfl)
  refine ⟨?quiet, fun hinvalid => ?invalid, fun hvalid => ?valid⟩
  case quiet => rw [hexec, calStep_of_collect_quiet hs]
  case invalid => rw [hexec, calStep_of_collect_invalid hs false (hsample ▸ hinvalid)]
  case valid =>
    refine ⟨calStep false true s, hexec true, ?_⟩
    rw [calStep_of_collect_valid hs false (hsample ▸ hvalid), ← hsample]
    rcases takeSample_cases sample { s with calCnt := 0 } with ⟨hlast, h⟩ | ⟨hmore, h⟩ <;> rw [h]
    · exact ⟨rfl, narrowCalSum_toNat, narrowCalIdx_toNat, fun hne => absurd hlast hne,
        fun _ => ⟨rfl, maxDelayOf_toNat hwf _, minDelayOf_toNat hwf _⟩⟩
    · exact ⟨rfl, narrowCalSum_toNat, narrowCalIdx_toNat, fun _ => ⟨hs, rfl, rfl⟩, fun heq => absurd heq hmore⟩

/-! ### What a word makes of the calibration elements -/

/-- A word is a TICK, or it is RST, or it writes CTRL_STATE, DIM_TARGET and what was returned at most. -/
theorem wordStep_calibration_cases (s : State) (w : OpWord) :
    (isTickWord w = true ∧ wordStep s w = tick (zcField w) s) ∨ wordStep s w = resetStep s ∨
    ∃ c d r, wordStep s w = { s with ctrlState := c, dimTarget := d, rdata := r } := by
  rcases wordStep_cases w with ⟨-, h⟩ | ⟨hw, hop, h⟩ | ⟨-, -, h⟩ | ⟨-, -, h⟩ | ⟨-, -, h⟩ <;> rw [h]
  · exact .inr (.inr ⟨_, _, _, rfl⟩)
  · exact .inl ⟨(isTickWord_iff w).mpr ⟨hw, hop⟩, rfl⟩
  · refine .inr (.inr ?_)
    rcases hostRegisterWrite_cases (addrField w) (dataField w) s with ⟨-, h⟩ | ⟨-, h⟩ | ⟨-, -, h⟩ <;>
      rw [hostWrite, h] <;> exact ⟨_, _, _, rfl⟩
  · exact .inr (.inr ⟨_, _, _, rfl⟩)
  · exact .inr (.inl rfl)

/-! ### GUARD and CAL_CNT count from the same edge (R96) -/

/-- COLLECT is reached from itself or by the reference edge, and CAL_CNT restarts exactly at the edge event (R88, R89). -/
theorem calCnt_of_calStep_collect {z ev : Bool} {s : State} (h : (calStep z ev s).calPhase = .collect) :
    (s.calPhase = .collect ∨ s.calPhase = .waitRef ∧ ev = true) ∧
    (calStep z ev s).calCnt = if ev then 0 else satInc16 s.calCnt := by
  cases hs : s.calPhase with
  | waitLow1 => rw [calStep_of_waitLow1 hs] at h; cases z <;> cases h
  | waitHigh => rw [calStep_of_waitHigh hs] at h; cases z <;> cases h
  | waitLow2 => rw [calStep_of_waitLow2 hs] at h; cases z <;> cases h
  | waitRef =>
    cases ev
    · rw [calStep_of_waitRef_quiet hs] at h; exact absurd (hs.symm.trans h) (by decide)
    · rw [calStep_of_waitRef_event hs]; exact ⟨.inr ⟨rfl, rfl⟩, rfl⟩
  | collect =>
    refine ⟨.inl rfl, ?_⟩
    rw [calStep_collect hs]
    rcases collectStep_cases ev s with ⟨rfl, h⟩ | ⟨rfl, -, h⟩ | ⟨rfl, -, h⟩ <;> rw [h]
    · rfl
    · rfl
    · exact (takeSample_counters _ _).1
  | done => rw [calStep_done hs] at h; exact absurd (hs.symm.trans h) (by decide)

theorem calEvent_of_accepted {s : State} (h : s.cfg.calEdgeSource = .accepted) (z : Bool) : calEvent z s = accept z s := by
  rw [calEvent, h]

theorem calEvent_of_raw {s : State} (h : s.cfg.calEdgeSource = .raw) (z : Bool) : calEvent z s = rising z s := by
  rw [calEvent, h]

theorem tick_cfg (z : Bool) (s : State) : (tick z s).cfg = s.cfg := by
  obtain ⟨-, -, -, hcfg, -⟩ := modeDispatch_frame z (calEvent z s) (accept z s) (edgeStep z s)
  exact hcfg

theorem tick_zcPrev (z : Bool) (s : State) : (tick z s).zcPrev = z := by
  obtain ⟨hzc, -⟩ := modeDispatch_frame z (calEvent z s) (accept z s) (edgeStep z s)
  exact hzc

/-- RUN mode is never left by a TICK (R17). -/
theorem tick_calPhase_of_done {s : State} (h : s.calPhase = .done) (z : Bool) : (tick z s).calPhase = .done := by
  rw [tick_run h, phaseStep_frame]; exact h

/-- At an accepted edge a TICK that collects clears GUARD and CAL_CNT, and otherwise it counts both. -/
theorem tick_keeps_guardTracksCalCnt {s : State} (z : Bool) (h : GuardTracksCalCnt s) : GuardTracksCalCnt (tick z s) := by
  obtain ⟨hwf, htrack⟩ := h
  refine ⟨(tick_cfg z s).symm ▸ hwf, fun hsrc hcollect => ?_⟩
  rw [tick_cfg] at hsrc
  have hcal : s.calPhase ≠ .done := fun hdone =>
    absurd ((tick_calPhase_of_done hdone z).symm.trans hcollect) (by decide)
  rw [tick_cal hcal] at hcollect
  obtain ⟨hfrom, hcnt⟩ := calCnt_of_calStep_collect hcollect
  have hcount : (tick z s).calCnt = if accept z s then 0 else satInc16 s.calCnt := by
    rw [tick_cal hcal, ← calEvent_of_accepted hsrc]; exact hcnt
  rw [tick_guard, hcount]
  rcases hfrom with hs | ⟨-, hev⟩
  · rw [htrack hsrc hs]
  · rw [calEvent_of_accepted hsrc] at hev
    rw [if_pos hev, if_pos hev]

theorem wordStep_keeps_guardTracksCalCnt {s : State} (w : OpWord) (h : GuardTracksCalCnt s) :
    GuardTracksCalCnt (wordStep s w) := by
  rcases wordStep_calibration_cases s w with ⟨-, hw⟩ | hw | ⟨c, d, r, hw⟩ <;> rw [hw]
  · exact tick_keeps_guardTracksCalCnt _ h
  · exact ⟨h.1, fun _ => nofun⟩
  · exact h

/-- Settles O43: a step runs a word, and every word keeps the two counters together. -/
theorem stepKeepsGuardTrackingCalCnt : Obligations.StepKeepsGuardTrackingCalCnt := by
  intro s t hinv h
  cases hops : s.ops with
  | nil =>
    rw [step_of_ops_nil hops] at h
    injection h with h
    exact h ▸ hinv
  | cons w rest =>
    rw [step_of_ops_cons hops, exec_decodeWord] at h
    obtain ⟨-, rfl⟩ := complete_eq_next.mp h
    exact wordStep_keeps_guardTracksCalCnt (s := s.setOps rest) w hinv

/-- Settles O46: a taken sample counts from the last accepted edge as GUARD does, and GUARD is above MIN_ZC_PERIOD at the
edge that ends it. -/
theorem takenSamplesPassTheNoiseGate : Obligations.TakenSamplesPassTheNoiseGate := by
  intro s t z hinv htrack hsrc hs h hne
  have ⟨⟨_, ⟨_, hwin⟩, _⟩, _⟩ := hinv
  obtain ⟨-, htracks⟩ := htrack
  rw [exec_tickInstr] at h
  obtain ⟨-, rfl⟩ := complete_eq_next.mp h
  rw [tick_cal (by simp [hs]), calStep_collect (s := edgeStep z s) hs] at hne ⊢
  rcases collectStep_cases (calEvent z s) (edgeStep z s) with ⟨-, h⟩ | ⟨-, -, h⟩ | ⟨hev, hvalid, h⟩ <;> rw [h] at hne ⊢
  · exact absurd rfl hne
  · exact absurd rfl hne
  · rw [calEvent_of_accepted hsrc] at hev
    obtain ⟨-, -, hguard⟩ := accept_iff.mp hev
    rw [htracks hsrc hs] at hguard
    have hvalid' : validSample s.cfg (satInc16 s.calCnt).toNat = true := hvalid
    obtain ⟨-, -, hfits⟩ := sum_of_valid_sample hinv hs hvalid'
    have hsample : s.cfg.minZcPeriod + 2 ≤ (satInc16 s.calCnt).toNat := by
      obtain ⟨-, hhi⟩ := validSample_iff.mp hvalid'
      rw [satInc16_toNat] at hhi ⊢
      omega
    obtain ⟨-, hsum, -⟩ := takeSample_counters (satInc16 s.calCnt).toNat { edgeStep z s with calCnt := 0 }
    calc s.calSum.toNat + s.cfg.minZcPeriod + 2
      _ ≤ s.calSum.toNat + (satInc16 s.calCnt).toNat := by omega
      _ = (narrowCalSum (s.calSum.toNat + (satInc16 s.calCnt).toNat)).toNat := (narrowCalSum_toNat hfits).symm
      _ = _ := congrArg BitVec.toNat hsum.symm

/-! ### No edge, no completion (R95) -/

theorem calEvent_of_not_rising {z : Bool} {s : State} (h : rising z s = false) : calEvent z s = false := by
  cases hsrc : s.cfg.calEdgeSource
  · rw [calEvent_of_accepted hsrc, accept, h, Bool.false_and]
  · rw [calEvent_of_raw hsrc, h]

/-- Without the edge event no calibration step completes calibration (R89). -/
theorem calMove_not_done {s t : State} (h : CalMove false s t) (hcal : s.calPhase ≠ .done) : t.calPhase ≠ .done := by
  cases h with
  | count => exact hcal
  | advance p _ hwait => rintro (rfl : p = _); exact absurd hwait (by decide)
  | reference _ hev | sample _ _ hev | publish _ _ hev => cases hev

theorem tick_not_done {z : Bool} {s : State} (hcal : s.calPhase ≠ .done) (hlow : rising z s = false) :
    (tick z s).calPhase ≠ .done := by
  have hstep := calMove_not_done (calStep_move z false (edgeStep z s)) hcal
  rw [tick_cal hcal, calEvent_of_not_rising hlow]
  exact hstep

theorem wordStep_not_done {s : State} {w : OpWord} (hcal : s.calPhase ≠ .done) (hrise : risesAt w s = false) :
    (wordStep s w).calPhase ≠ .done := by
  rcases wordStep_calibration_cases s w with ⟨hw, h⟩ | h | ⟨c, d, r, h⟩ <;> rw [h]
  · exact tick_not_done hcal (by simpa [risesAt, hw] using hrise)
  · exact nofun
  · exact hcal

theorem foldl_wordStep_not_done (ws : List OpWord) : ∀ {s : State}, s.cfg.WF → s.calPhase ≠ .done →
    countDuring risesAt ws s = 0 → (ws.foldl wordStep s).calPhase ≠ .done := by
  induction ws with
  | nil => exact fun _ hcal _ => hcal
  | cons w ws ih =>
    intro s hwf hcal hcount
    obtain ⟨hrise, hrest⟩ := (countDuring_cons_eq_zero hwf).mp hcount
    exact ih ((wordStep_cfg_of_wf hwf w).symm ▸ hwf) (wordStep_not_done hcal hrise) hrest

/-- Settles O49: a run completes, and no word of it ends calibration. -/
theorem calibrationStallsWithoutEdges : Obligations.CalibrationStallsWithoutEdges :=
  fun _ ws hwf hcal hcount => ⟨_, runWords_of_wf ws hwf, foldl_wordStep_not_done ws hwf hcal hcount⟩

/-! ### The published bounds (R90, R94) -/

theorem maxDelayOf_bounds {c : Config} (h : c.WF) (avg : Nat) : c.maxMin ≤ maxDelayOf c avg ∧ maxDelayOf c avg ≤ c.maxMax := by
  obtain ⟨-, -, -, -, -, ⟨hle, -⟩, -⟩ := h
  exact clamp_bounds _ (Int.ofNat_le.mpr hle)

theorem minDelayOf_bounds {c : Config} (h : c.WF) (avg : Nat) : c.minMin ≤ minDelayOf c avg ∧ minDelayOf c avg ≤ c.minMax := by
  obtain ⟨-, -, -, -, -, -, ⟨hle, -⟩, -⟩ := h
  exact clamp_bounds _ (Int.ofNat_le.mpr hle)

theorem armed_of_lt {c : Config} {d : Nat} (h : d < c.safetyTimeout) : armed c d = true := by
  simp [armed, h]

/-- Settles O45: the sum lies between CAL_N times the window ends, and the bounds are clamped values. -/
theorem calibratedBoundsAreSound : Obligations.CalibratedBoundsAreSound := by
  rintro s ⟨hwf, -, hpublished⟩ hdone
  obtain ⟨-, hlo, hhi, hmax, hmin⟩ := hpublished hdone
  have ⟨⟨hN, _⟩, _⟩ := hwf
  have hmaxb := maxDelayOf_bounds hwf (avgPeriod s.cfg s.calSum.toNat)
  have hminb := minDelayOf_bounds hwf (avgPeriod s.cfg s.calSum.toNat)
  rw [← hmax] at hmaxb
  rw [← hmin] at hminb
  have hmaxDelay : s.cfg.maxMin ≤ s.maxDelay.toNat ∧ s.maxDelay.toNat ≤ s.cfg.maxMax := by omega
  have hminDelay : s.cfg.minMin ≤ s.minDelay.toNat ∧ s.minDelay.toNat ≤ s.cfg.minMax := by omega
  refine ⟨⟨(Nat.le_div_iff_mul_le hN).mpr (by rwa [Nat.mul_comm]), Nat.div_le_of_le_mul hhi⟩, hminDelay, hmaxDelay,
    fun hordered => hminDelay.2.trans (hordered.trans hmaxDelay.1), fun hbelow d hd => ?_⟩
  exact armed_of_lt (lt_of_le_of_lt (hd.trans hmaxDelay.2) hbelow)

end Sys2Proof.Machine
end

section
/-!
Family 42_calibration.md: calibration on a clean square input (R98). A tick count n is read as q periods and j ticks of the
period after them, 1 ≤ j ≤ p past reset; the state after n ticks is given by q and j, and a TICK either goes on in a period or
begins the next one, at its rising edge.
-/

namespace Sys2Proof.Machine

/-! ### The words of the input -/

theorem wave_succ (h l k : Nat) : wave h l (k + 1) = (ticks h true ++ ticks l false) ++ wave h l k := by
  rw [wave, List.replicate_succ, List.flatten_cons, wave]

theorem period_getElem? {h l j : Nat} (hj : j < h + l) :
    (ticks h true ++ ticks l false)[j]? = some (tickWord (decide (j < h))) := by
  have hlen : (ticks h true).length = h := List.length_replicate
  by_cases hjh : j < h
  · rw [List.getElem?_append_left (by omega), ticks, List.getElem?_replicate_of_lt hjh, decide_eq_true hjh]
  · rw [List.getElem?_append_right (by omega), ticks, List.getElem?_replicate_of_lt (by omega), decide_eq_false hjh]

/-- The word after q periods and j ticks. -/
theorem wave_getElem? {h l j : Nat} (hj : j < h + l) (k : Nat) : ∀ {q : Nat}, q < k →
    (wave h l k)[q * (h + l) + j]? = some (tickWord (decide (j < h))) := by
  induction k with
  | zero => exact fun hq => absurd hq (Nat.not_lt_zero _)
  | succ k ih =>
    intro q hq
    have hlen : (ticks h true ++ ticks l false).length = h + l := by simp [ticks]
    rw [wave_succ]
    cases q with
    | zero => rw [Nat.zero_mul, Nat.zero_add, List.getElem?_append_left (hlen.symm ▸ hj), period_getElem? hj]
    | succ q =>
      rw [Nat.add_one_mul, List.getElem?_append_right (by omega), hlen,
        show q * (h + l) + (h + l) + j - (h + l) = q * (h + l) + j by omega]
      exact ih (by omega)

theorem foldl_take_succ {ws : List OpWord} {n : Nat} {z : Bool} (h : ws[n]? = some (tickWord z)) (s : State) :
    (ws.take (n + 1)).foldl wordStep s = tick z ((ws.take n).foldl wordStep s) := by
  rw [List.take_add_one, h, List.foldl_append, Option.toList_some, List.foldl_cons, List.foldl_nil, wordStep_tickWord]

/-! ### The edges of the input -/

/-- The input and the configuration of R98: h ticks high and l low, of a period p in the window, which the noise gate of
calibration lets pass. -/
structure CleanSquare (c : Config) (h l p : Nat) : Prop where
  wf : c.WF
  high : 1 ≤ h
  low : 1 ≤ l
  period : p = h + l
  window : c.calWinLo ≤ p ∧ p ≤ c.calWinHi
  idle : c.zcIdleLevel = true
  gate : c.calEdgeSource = .accepted → c.minZcPeriod + 2 ≤ p

theorem CleanSquare.period_le {c : Config} {h l p : Nat} (H : CleanSquare c h l p) : p ≤ 0xFFFE := by
  obtain ⟨-, ⟨-, hhi⟩, -⟩ := H.wf
  exact H.window.2.trans hhi

/-- The word of tick n + 1, where n is q periods and j ticks. -/
theorem CleanSquare.word {c : Config} {h l p q j k n : Nat} (H : CleanSquare c h l p) (hn : n = q * p + j) (hj : j < p)
    (hq : q < k) : (wave h l k)[n]? = some (tickWord (decide (j < h))) := by
  have hperiod := H.period
  rw [hn, hperiod]
  exact wave_getElem? (hperiod ▸ hj) k hq

/-- The edge detector and the noise gate after q periods and j ticks: the first period, from reset, has no edge, and each
later one begins with an accepted edge. -/
structure SquareEdges (c : Config) (h q j : Nat) (s : State) : Prop where
  cfg : s.cfg = c
  zcPrev : s.zcPrev = decide (j ≤ h)
  guard : c.calEdgeSource = .accepted → s.guard.toNat = if q = 0 then j else j - 1

section
variable {c : Config} {h l p q j : Nat} {s : State}

/-- Within a period the input does not rise. -/
theorem SquareEdges.quiet (E : SquareEdges c h q j s) : rising (decide (j < h)) s = false := by
  rw [rising, E.zcPrev]
  by_cases hj : j < h
  · simp [hj.le]
  · simp [hj]

theorem SquareEdges.within (H : CleanSquare c h l p) (E : SquareEdges c h q j s) (hj : j < p) (hpos : q = 0 ∨ 1 ≤ j) :
    SquareEdges c h q (j + 1) (tick (decide (j < h)) s) := by
  refine ⟨by rw [tick_cfg, E.cfg], by rw [tick_zcPrev]; rfl, fun hsrc => ?_⟩
  have hp := H.period_le
  have hacc : accept (decide (j < h)) s = false := by rw [accept, E.quiet, Bool.false_and]
  rw [tick_guard_of_not_accept hacc, E.guard hsrc]
  split <;> omega

/-- At the end of a period the input is low, and the noise gate is open. -/
theorem SquareEdges.event (H : CleanSquare c h l p) (E : SquareEdges c h q p s) :
    calEvent true s = true ∧ (c.calEdgeSource = .accepted → accept true s = true) := by
  have hzc : s.zcPrev = false := by
    have hperiod := H.period
    have hlow := H.low
    rw [E.zcPrev, decide_eq_false (by omega)]
  have hacc : c.calEdgeSource = .accepted → accept true s = true := fun hsrc => by
    have hgate := H.gate hsrc
    refine accept_iff.mpr ⟨rfl, hzc, ?_⟩
    rw [E.cfg, E.guard hsrc]
    split <;> omega
  refine ⟨?_, hacc⟩
  cases hsrc : c.calEdgeSource
  · rw [calEvent_of_accepted (E.cfg ▸ hsrc), hacc hsrc]
  · rw [calEvent_of_raw (E.cfg ▸ hsrc), rising, hzc]; rfl

theorem SquareEdges.turn (H : CleanSquare c h l p) (E : SquareEdges c h q p s) :
    SquareEdges c h (q + 1) 1 (tick true s) := by
  obtain ⟨-, hacc⟩ := E.event H
  refine ⟨by rw [tick_cfg, E.cfg], by rw [tick_zcPrev, decide_eq_true H.high], fun hsrc => ?_⟩
  rw [tick_guard_of_accept (hacc hsrc)]
  rfl

/-! ### The calibration elements -/

/-- The phase after q periods and j ticks. -/
def squarePhase (N h q j : Nat) : CalPhase :=
  if q = 0 then (if j ≤ h then .waitLow1 else .waitHigh)
  else if q = 1 then (if j ≤ h then .waitLow2 else .waitRef)
  else if q < N + 2 then .collect else .done

theorem squarePhase_first (N h j : Nat) : squarePhase N h 0 j = if j ≤ h then .waitLow1 else .waitHigh := rfl

theorem squarePhase_second (N h j : Nat) : squarePhase N h 1 j = if j ≤ h then .waitLow2 else .waitRef := rfl

theorem squarePhase_collect {N k : Nat} (hk : k < N) (h j : Nat) : squarePhase N h (k + 2) j = .collect := by
  simp [squarePhase, hk]

theorem squarePhase_done {N k : Nat} (hk : N ≤ k) (h j : Nat) : squarePhase N h (k + 2) j = .done := by
  simp [squarePhase, hk]

theorem squarePhase_ne_done {N q : Nat} (hq : q < N + 2) (h j : Nat) : squarePhase N h q j ≠ .done := by
  rcases q with _ | _ | k
  · rw [squarePhase_first]; split <;> simp
  · rw [squarePhase_second]; split <;> simp
  · rw [squarePhase_collect (by omega)]; simp

/-- The calibration elements after q periods and j ticks: the k-th period after the reference edge has k samples of value p,
and after CAL_N of them the bounds are those of p. -/
structure SquareCal (c : Config) (h p q j : Nat) (s : State) : Prop where
  phase : s.calPhase = squarePhase c.calN h q j
  counters : ∀ k, q = k + 2 → s.calCnt.toNat = j - 1 ∧ s.calIdx.toNat = k ∧ s.calSum.toNat = k * p
  bounds : c.calN + 2 ≤ q → (s.maxDelay.toNat : Int) = maxDelayOf c p ∧ (s.minDelay.toNat : Int) = minDelayOf c p

theorem SquareCal.cal (C : SquareCal c h p q j s) (hq : q < c.calN + 2) : s.calPhase ≠ .done := by
  rw [C.phase]
  exact squarePhase_ne_done hq h j

/-- In the first two periods the phase is all there is to show. -/
theorem squareCal_of_phase (H : CleanSquare c h l p) (hq : q < 2) (hphase : s.calPhase = squarePhase c.calN h q j) :
    SquareCal c h p q j s := by
  obtain ⟨⟨hN, -⟩, -⟩ := H.wf
  exact ⟨hphase, fun k hk => by omega, fun hk => by omega⟩

/-! Within a period: the input goes low after h ticks, and no edge comes. -/

theorem SquareCal.within_first (H : CleanSquare c h l p) (C : SquareCal c h p 0 j s) (ev : Bool) :
    SquareCal c h p 0 (j + 1) (calStep (decide (j < h)) ev s) := by
  have hphase := C.phase
  apply squareCal_of_phase H (by decide)
  rw [squarePhase_first] at hphase ⊢
  by_cases hj : j ≤ h
  · rw [if_pos hj] at hphase
    rw [calStep_of_waitLow1 hphase]
    simp only [decide_eq_true_eq, Nat.add_one_le_iff]
  · rw [if_neg hj] at hphase
    rw [calStep_of_waitHigh hphase, decide_eq_false (by omega : ¬ j < h), if_neg (by omega : ¬ j + 1 ≤ h)]
    rfl

theorem SquareCal.within_second (H : CleanSquare c h l p) (C : SquareCal c h p 1 j s) :
    SquareCal c h p 1 (j + 1) (calStep (decide (j < h)) false s) := by
  have hphase := C.phase
  apply squareCal_of_phase H (by decide)
  rw [squarePhase_second] at hphase ⊢
  by_cases hj : j ≤ h
  · rw [if_pos hj] at hphase
    rw [calStep_of_waitLow2 hphase]
    simp only [decide_eq_true_eq, Nat.add_one_le_iff]
  · rw [if_neg hj] at hphase
    rw [calStep_of_waitRef_quiet hphase, if_neg (by omega)]
    exact hphase

theorem SquareCal.within_collect {k : Nat} (H : CleanSquare c h l p) (C : SquareCal c h p (k + 2) j s) (hk : k < c.calN)
    (hpos : 1 ≤ j) (hj : j < p) (z : Bool) : SquareCal c h p (k + 2) (j + 1) (calStep z false s) := by
  have hp := H.period_le
  have hphase := C.phase
  obtain ⟨hcnt, hidx, hsum⟩ := C.counters k rfl
  rw [squarePhase_collect hk] at hphase
  rw [calStep_of_collect_quiet hphase]
  refine ⟨hphase.trans (squarePhase_collect hk h _).symm, fun k' hk' => ?_, fun hlast => by omega⟩
  obtain rfl : k = k' := by omega
  exact ⟨by rw [satInc16_toNat, hcnt]; omega, hidx, hsum⟩

/-- Within a period, whichever it is. -/
theorem SquareCal.within (H : CleanSquare c h l p) (C : SquareCal c h p q j s) (hq : q < c.calN + 2) (hj : j < p)
    (hpos : q = 0 ∨ 1 ≤ j) : SquareCal c h p q (j + 1) (calStep (decide (j < h)) false s) := by
  rcases q with _ | _ | k
  · exact C.within_first H false
  · exact C.within_second H
  · exact C.within_collect H (by omega) (by omega) hj _

/-! The next period: it begins with the edge event. -/

theorem SquareCal.turn_first (H : CleanSquare c h l p) (C : SquareCal c h p 0 p s) (ev : Bool) :
    SquareCal c h p 1 1 (calStep true ev s) := by
  have hphase := C.phase
  have hperiod := H.period
  have hlow := H.low
  rw [squarePhase_first, if_neg (by omega)] at hphase
  apply squareCal_of_phase H (by decide)
  rw [calStep_of_waitHigh hphase, squarePhase_second, if_pos H.high]
  rfl

theorem SquareCal.turn_second (H : CleanSquare c h l p) (C : SquareCal c h p 1 p s) (z : Bool) :
    SquareCal c h p 2 1 (calStep z true s) := by
  have hphase := C.phase
  have hperiod := H.period
  have hlow := H.low
  obtain ⟨⟨hN, -⟩, -⟩ := H.wf
  rw [squarePhase_second, if_neg (by omega)] at hphase
  rw [calStep_of_waitRef_event hphase]
  refine ⟨(squarePhase_collect hN h 1).symm, fun k hk => ?_, fun hlast => by omega⟩
  obtain rfl : 0 = k := by omega
  exact ⟨rfl, rfl, by simp⟩

/-- With sample k + 1, of value p, the sum and the count fit their elements (R40), and the last one publishes the bounds of
the average p (R90, R93). -/
theorem squareCal_takeSample {k : Nat} (H : CleanSquare c h l p) (hcfg : s.cfg = c) (hphase : s.calPhase = .collect)
    (hk : k < c.calN) (hcnt : s.calCnt = 0) (hidx : s.calIdx.toNat = k) (hsum : s.calSum.toNat = k * p) :
    SquareCal c h p (k + 3) 1 (takeSample p s) := by
  obtain ⟨⟨hN, hN'⟩, -, hfits, -⟩ := H.wf
  have hsucc : s.calSum.toNat + p = (k + 1) * p := by rw [hsum, Nat.succ_mul]
  have hcounters : ∀ k', k + 3 = k' + 2 → (takeSample p s).calCnt.toNat = 1 - 1 ∧
      (takeSample p s).calIdx.toNat = k' ∧ (takeSample p s).calSum.toNat = k' * p := by
    intro k' hk'
    obtain rfl : k + 1 = k' := by omega
    have hsumfits : (k + 1) * p ≤ 0xFFFF := (Nat.mul_le_mul hk H.window.2).trans hfits
    obtain ⟨hcnt', hsum', hidx'⟩ := takeSample_counters p s
    rw [hcnt', hsum', hidx', hcnt, hsucc, hidx, narrowCalSum_toNat hsumfits, narrowCalIdx_toNat (by omega)]
    exact ⟨rfl, rfl, rfl⟩
  rcases takeSample_cases p s with ⟨hlast, ht⟩ | ⟨hmore, ht⟩
  · rw [hidx, hcfg] at hlast
    have havg : avgPeriod c (s.calSum.toNat + p) = p := by
      rw [avgPeriod, hsucc, hlast, Nat.mul_div_cancel_left _ hN]
    refine ⟨?_, hcounters, fun _ => ?_⟩ <;> rw [ht]
    · exact (squarePhase_done (by omega) h 1).symm
    · rw [hcfg, havg]
      exact ⟨maxDelayOf_toNat H.wf p, minDelayOf_toNat H.wf p⟩
  · rw [hidx, hcfg] at hmore
    refine ⟨?_, hcounters, fun hlast => by omega⟩
    rw [ht, squarePhase_collect (by omega)]
    exact hphase

theorem SquareCal.turn_collect {k : Nat} (H : CleanSquare c h l p) (C : SquareCal c h p (k + 2) p s) (hcfg : s.cfg = c)
    (hk : k < c.calN) (z : Bool) : SquareCal c h p (k + 3) 1 (calStep z true s) := by
  have hphase := C.phase
  obtain ⟨hcnt, hidx, hsum⟩ := C.counters k rfl
  rw [squarePhase_collect hk] at hphase
  have hsample : (satInc16 s.calCnt).toNat = p := by
    have hp := H.period_le
    have hhigh := H.high
    have hperiod := H.period
    rw [satInc16_toNat, hcnt]; omega
  have hvalid := H.window
  rw [← hcfg, ← hsample] at hvalid
  rw [calStep_of_collect_valid hphase z hvalid, hsample]
  exact squareCal_takeSample H (s := { s with calCnt := 0 }) hcfg hphase hk rfl hidx hsum

/-- The next period, whichever it is. -/
theorem SquareCal.turn (H : CleanSquare c h l p) (C : SquareCal c h p q p s) (hcfg : s.cfg = c) (hq : q < c.calN + 2) :
    SquareCal c h p (q + 1) 1 (calStep true true s) := by
  rcases q with _ | _ | k
  · exact C.turn_first H true
  · exact C.turn_second H true
  · exact C.turn_collect H hcfg (by omega) true

/-! ### The state after n ticks -/

/-- The state of the run after q periods and j ticks. -/
structure SquareState (c : Config) (h p q j : Nat) (s : State) : Prop where
  edges : SquareEdges c h q j s
  cal : SquareCal c h p q j s

theorem squareState_reset (H : CleanSquare c h l p) : SquareState c h p 0 0 (State.resetOf c) :=
  ⟨⟨rfl, H.idle, fun _ => rfl⟩, squareCal_of_phase H (by decide) rfl⟩

/-- In CAL mode a TICK leaves the calibration elements as the calibration step does. -/
theorem squareCal_tick {z : Bool} (hcal : s.calPhase ≠ .done)
    (C : SquareCal c h p q j (calStep z (calEvent z s) (edgeStep z s))) : SquareCal c h p q j (tick z s) := by
  rw [tick_cal hcal]
  exact ⟨C.phase, C.counters, C.bounds⟩

theorem SquareCal.after_edgeStep (C : SquareCal c h p q j s) (z : Bool) : SquareCal c h p q j (edgeStep z s) :=
  ⟨C.phase, C.counters, C.bounds⟩

theorem SquareState.within (H : CleanSquare c h l p) (S : SquareState c h p q j s) (hq : q < c.calN + 2) (hj : j < p)
    (hpos : q = 0 ∨ 1 ≤ j) : SquareState c h p q (j + 1) (tick (decide (j < h)) s) := by
  refine ⟨S.edges.within H hj hpos, squareCal_tick (S.cal.cal hq) ?_⟩
  rw [calEvent_of_not_rising S.edges.quiet]
  exact (S.cal.after_edgeStep _).within H hq hj hpos

theorem SquareState.turn (H : CleanSquare c h l p) (S : SquareState c h p q p s) (hq : q < c.calN + 2) :
    SquareState c h p (q + 1) 1 (tick true s) := by
  obtain ⟨hev, -⟩ := S.edges.event H
  refine ⟨S.edges.turn H, squareCal_tick (S.cal.cal hq) ?_⟩
  rw [hev]
  exact (S.cal.after_edgeStep true).turn H S.edges.cfg hq

/-- After n ticks the run stands at the q and j of n. -/
theorem squareState_run (H : CleanSquare c h l p) (n : Nat) : n ≤ (c.calN + 2) * p + 1 →
    ∃ q j, n = q * p + j ∧ j ≤ p ∧ (q = 0 ∨ 1 ≤ j) ∧
      SquareState c h p q j (((wave h l (c.calN + 3)).take n).foldl wordStep (State.resetOf c)) := by
  induction n with
  | zero => exact fun _ => ⟨0, 0, by simp, Nat.zero_le _, .inl rfl, squareState_reset H⟩
  | succ n ih =>
    intro hn
    obtain ⟨q, j, hnqj, hj, hpos, S⟩ := ih (by omega)
    have hperiod := H.period
    have hhigh := H.high
    have hq : q < c.calN + 2 := by
      by_contra hge
      have hmul : (c.calN + 2) * p ≤ q * p := Nat.mul_le_mul_right p (not_lt.mp hge)
      omega
    rcases Nat.lt_or_eq_of_le hj with hlt | rfl
    · refine ⟨q, j + 1, by omega, hlt, .inr (Nat.succ_pos j), ?_⟩
      rw [foldl_take_succ (H.word hnqj hlt (by omega))]
      exact S.within H hq hlt hpos
    · have hnext : n = (q + 1) * j + 0 := by rw [Nat.add_one_mul, hnqj, Nat.add_zero]
      refine ⟨q + 1, 1, by omega, by omega, .inr (le_refl 1), ?_⟩
      rw [foldl_take_succ (H.word hnext (by omega) (by omega)), decide_eq_true (show 0 < h from hhigh)]
      exact S.turn H hq

/-! ### Reading the state by the tick count -/

/-- The boundaries of R98, as tick counts. -/
theorem squarePhase_eq {N n : Nat} (hh : h < p) (hn : n = q * p + j) (hj : j ≤ p) (hpos : q = 0 ∨ 1 ≤ j) :
    squarePhase N h q j =
      if n ≤ h then .waitLow1 else if n ≤ p then .waitHigh else if n ≤ p + h then .waitLow2
      else if n ≤ 2 * p then .waitRef else if n ≤ (N + 2) * p then .collect else .done := by
  rcases q with _ | _ | k
  · obtain rfl : n = j := by omega
    rw [squarePhase_first, if_pos hj]
  · obtain rfl : n = p + j := by omega
    have hj1 : 1 ≤ j := by omega
    rw [squarePhase_second, if_neg (by omega : ¬ p + j ≤ h), if_neg (by omega : ¬ p + j ≤ p),
      if_pos (by omega : p + j ≤ 2 * p)]
    simp only [Nat.add_le_add_iff_left]
  · have hn' : n = (k + 2) * p + j := hn
    have hge : 2 * p ≤ (k + 2) * p := Nat.mul_le_mul_right p (Nat.le_add_left 2 k)
    rw [if_neg (by omega : ¬ n ≤ h), if_neg (by omega : ¬ n ≤ p), if_neg (by omega : ¬ n ≤ p + h),
      if_neg (by omega : ¬ n ≤ 2 * p)]
    rcases Nat.lt_or_ge k N with hk | hk
    · have hle : (k + 3) * p ≤ (N + 2) * p := Nat.mul_le_mul_right p (by omega)
      have hsucc : (k + 3) * p = (k + 2) * p + p := Nat.succ_mul (k + 2) p
      rw [squarePhase_collect hk, if_pos (by omega)]
    · have hle : (N + 2) * p ≤ (k + 2) * p := Nat.mul_le_mul_right p (by omega)
      rw [squarePhase_done hk, if_neg (by omega)]

/-- The samples counted by tick n are the whole periods since the reference edge. -/
theorem samples_eq {k n : Nat} (hn : n = (k + 2) * p + j) (hj : j ≤ p) (hpos : 1 ≤ j) : (n - (2 * p + 1)) / p = k := by
  have hsplit : (k + 2) * p = k * p + 2 * p := Nat.add_mul k 2 p
  rw [show n - (2 * p + 1) = (j - 1) + k * p by omega, Nat.add_mul_div_right _ _ (by omega),
    Nat.div_eq_of_lt (by omega), Nat.zero_add]

end

/-- Settles O50: the run completes at the q and j of n, and the phase, the samples and the bounds are those of q and j. -/
theorem cleanSquareInputCalibrates : Obligations.CleanSquareInputCalibrates := by
  intro c h l p n hwf hhigh hlow hperiod hlo hhi hidle hgate hn
  have H : CleanSquare c h l p := ⟨hwf, hhigh, hlow, hperiod, ⟨hlo, hhi⟩, hidle, hgate⟩
  obtain ⟨q, j, hnqj, hj, hpos, S⟩ := squareState_run H n hn
  refine ⟨_, runWords_of_wf _ hwf, ?phase, fun hsamples => ?samples, fun hlast => S.cal.bounds ?bounds⟩
  case phase => rw [S.cal.phase, squarePhase_eq (by omega) hnqj hj hpos]
  case samples =>
    obtain ⟨k, rfl⟩ : ∃ k, q = k + 2 := by
      rcases q with _ | _ | k
      · omega
      · omega
      · exact ⟨k, rfl⟩
    obtain ⟨-, hidx, hsum⟩ := S.cal.counters k rfl
    rw [samples_eq hnqj hj (by omega)]
    exact ⟨hidx, hsum⟩
  case bounds =>
    by_contra hlt
    have hle : (q + 1) * p ≤ (c.calN + 2) * p := Nat.mul_le_mul_right p (by omega)
    have hsucc : (q + 1) * p = q * p + p := Nat.succ_mul q p
    omega

end Sys2Proof.Machine
end

section
/-!
Family 43_phase_control.md: the rows of phase control as equations (R100 to R105), and its runs counted in TICKs: where a
cycle stands n TICKs after its edge (R107 to R110), and how many TICKs an unforced run needs to be back in IDLE (R112).
-/

namespace Sys2Proof.Machine

/-! ### The rows as equations (R100 to R104) -/

theorem armed_iff {c : Config} {d : Nat} :
    armed c d = true ↔ d < c.safetyTimeout ∨ c.delayEqFires = true ∧ d = c.safetyTimeout := by
  simp [armed]

/-- R102's test to fire: the count has reached a DIM_TARGET that is armed. -/
def delayFires (s : State) : Prop :=
  s.dimTarget.toNat ≤ (inc16 s.phaseCnt).toNat ∧ armed s.cfg s.dimTarget.toNat = true

theorem delayStep_of_fires {s : State} (h : delayFires s) :
    delayStep s = { s with gate := true, phaseCnt := 0, ctrlState := ctrlTrigger } :=
  if_pos h

theorem delayStep_of_timeout {s : State} (h : ¬ delayFires s) (hcnt : s.cfg.safetyTimeout ≤ (inc16 s.phaseCnt).toNat) :
    delayStep s = { s with gate := false, phaseCnt := inc16 s.phaseCnt, ctrlState := ctrlIdle } :=
  (if_neg h).trans (if_pos hcnt)

theorem delayStep_of_counts {s : State} (h : ¬ delayFires s) (hcnt : (inc16 s.phaseCnt).toNat < s.cfg.safetyTimeout) :
    delayStep s = { s with phaseCnt := inc16 s.phaseCnt } :=
  (if_neg h).trans (if_neg (not_le.mpr hcnt))

/-- The row that a RUN mode state selects, as an operation: it completes with the phase-control step. -/
theorem exec_ctrlRow {s : State} {acc : Bool} {i : Instr} (hwf : s.cfg.WF) (hdone : s.calPhase = .done)
    (hi : i = decodeCtrlState s.ctrlState acc) : exec i s = .next (phaseStep acc s) := by
  rw [hi, exec_decodeCtrlState_of_run hdone, complete_of_wf hwf]

/-- Settles O18: the row runs IDLE, without and with the edge. -/
theorem idleTakesAnAcceptedEdge : Obligations.IdleTakesAnAcceptedEdge := by
  intro s hwf hdone hs
  have hrow : ∀ acc, exec (.pcIdle acc) s = .next (idleStep acc s) := fun acc => by
    rw [← phaseStep_idle hs]
    exact exec_ctrlRow hwf hdone (by rw [hs]; rfl)
  exact ⟨hrow false, hrow true⟩

/-- Settles O19: the row runs OFFSET, which goes on or counts. -/
theorem offsetCountsToZcOffset : Obligations.OffsetCountsToZcOffset := by
  intro s hwf hdone hs
  rw [exec_ctrlRow (acc := false) hwf hdone (by rw [hs]; rfl), phaseStep_offset hs, ← inc16_toNat]
  rcases offsetStep_cases s with ⟨hcnt, h⟩ | ⟨hcnt, h⟩ <;> rw [h]
  · rw [if_pos hcnt]; rfl
  · rw [if_neg (not_le.mpr hcnt)]

/-- Settles O20: the row runs DELAY, by its equation in each of the three cases. -/
theorem delayFiresOrTimesOut : Obligations.DelayFiresOrTimesOut := by
  intro s c fires hwf hdone hs hc hfires
  have hrow : exec .pcDelay s = .next (delayStep s) := by
    rw [← phaseStep_delay hs false]
    exact exec_ctrlRow hwf hdone (by rw [hs]; rfl)
  rw [← inc16_toNat] at hc
  have hiff : fires ↔ delayFires s := by rw [hfires, delayFires, armed_iff, hc]
  rw [hrow, hiff, hc]
  refine ⟨fun h => ?fire, fun h hcnt => ?timeout, fun h hcnt => ?count⟩
  case fire => rw [delayStep_of_fires h]; rfl
  case timeout => rw [delayStep_of_timeout h hcnt]; rfl
  case count => rw [delayStep_of_counts h hcnt]

/-- Settles O21: the row runs TRIGGER, which ends the pulse or counts. -/
theorem triggerHoldsThePulse : Obligations.TriggerHoldsThePulse := by
  intro s hwf hdone hs
  rw [exec_ctrlRow (acc := false) hwf hdone (by rw [hs]; rfl), phaseStep_trigger hs, ← inc16_toNat]
  rcases triggerStep_cases s with ⟨hcnt, h⟩ | ⟨hcnt, h⟩ <;> rw [h]
  · rw [if_pos hcnt]; rfl
  · rw [if_neg (not_le.mpr hcnt)]

/-- An INVALID row heals the value that it matches. -/
theorem exec_invalidRow {s : State} {v : Reg8} {i : Instr} (hwf : s.cfg.WF) (hdone : s.calPhase = .done)
    (hi : i = decodeCtrlState v false ∧ 4 ≤ v.toNat) (hs : s.ctrlState = v) :
    exec i s = .next { s with gate := false, ctrlState := 0 } := by
  subst hs
  rw [exec_ctrlRow hwf hdone hi.1, phaseStep_invalid hi.2]
  rfl

/-- Settles O22: each of the six rows is the one that its match and free bits select. -/
theorem invalidStatesHeal : Obligations.InvalidStatesHeal :=
  fun _ hwf hdone => ⟨fun low => exec_invalidRow hwf hdone (decode_invalid04 low),
    fun low => exec_invalidRow hwf hdone (decode_invalid08 low),
    fun low => exec_invalidRow hwf hdone (decode_invalid10 low),
    fun low => exec_invalidRow hwf hdone (decode_invalid20 low),
    fun low => exec_invalidRow hwf hdone (decode_invalid40 low),
    fun low => exec_invalidRow hwf hdone (decode_invalid80 low)⟩

/-! ### Edges outside IDLE (R105) -/

/-- Only IDLE looks at the edge. -/
theorem phaseStep_of_not_idle {s : State} (h : s.ctrlState ≠ 0) (acc : Bool) : phaseStep acc s = phaseStep false s :=
  (if_neg h).trans (if_neg h).symm

theorem phaseStep_heartbeat_of_not_idle {s : State} (h : s.ctrlState ≠ 0) (acc : Bool) :
    (phaseStep acc s).heartbeat = s.heartbeat := by
  by_contra hne
  obtain ⟨hidle, -⟩ := phaseStep_heartbeat_ne hne
  exact h hidle

theorem setGuard_ite (p : Prop) [Decidable p] (t u : State) (g : Reg16) :
    (if p then t else u).setGuard g = if p then t.setGuard g else u.setGuard g :=
  apply_ite (fun x : State => x.setGuard g) p t u

/-- Phase control neither reads nor writes GUARD. -/
theorem phaseStep_setGuard (acc : Bool) (s : State) (g : Reg16) :
    phaseStep acc (s.setGuard g) = (phaseStep acc s).setGuard g := by
  rcases phaseStep_cases acc s with ⟨hs, h⟩ | ⟨hs, h⟩ | ⟨hs, h⟩ | ⟨hs, h⟩ | ⟨hs, h⟩ <;> rw [h]
  · rw [phaseStep_idle (s := s.setGuard g) hs]; cases acc <;> rfl
  · rw [phaseStep_offset (s := s.setGuard g) hs]; simp only [offsetStep, setGuard_ite]; rfl
  · rw [phaseStep_delay (s := s.setGuard g) hs]; simp only [delayStep, setGuard_ite]; rfl
  · rw [phaseStep_trigger (s := s.setGuard g) hs]; simp only [triggerStep, setGuard_ite]; rfl
  · rw [phaseStep_invalid (s := s.setGuard g) hs]; rfl

theorem tick_heartbeat_of_not_idle {s : State} (hdone : s.calPhase = .done) (hs : s.ctrlState ≠ 0) (z : Bool) :
    (tick z s).heartbeat = s.heartbeat := by
  rw [tick_run hdone]
  exact phaseStep_heartbeat_of_not_idle (s := edgeStep z s) hs _

/-- On an input that was already high no edge is accepted, and outside IDLE that tells in GUARD only. -/
theorem tick_of_high_input {s : State} (hdone : s.calPhase = .done) (hs : s.ctrlState ≠ 0) :
    tick true { s with zcPrev := true } = (tick true s).setGuard (satInc16 s.guard) := by
  have hstep : phaseStep (accept true s) (edgeStep true s) = phaseStep false (edgeStep true s) :=
    phaseStep_of_not_idle (s := edgeStep true s) hs _
  rw [tick_run hdone, hstep, tick_run (s := { s with zcPrev := true }) hdone]
  exact congrArg (fun t : State => t.setRdata none) (phaseStep_setGuard false (edgeStep true s) (satInc16 s.guard))

/-- Settles O24: outside IDLE the edge reaches neither the row nor the TICK's step, only GUARD. -/
theorem edgesOutsideIdleAreLost : Obligations.EdgesOutsideIdleAreLost := by
  intro s hwf hdone hs
  have hrow : ∀ acc, exec (.calDone acc) s = .next (phaseStep acc s) := fun acc =>
    (completeRow_of_calPhase hdone _).trans (complete_of_wf hwf _)
  refine ⟨⟨phaseStep false s, ?_, hrow false, phaseStep_heartbeat_of_not_idle hs false⟩, fun hprev hguard => ?_⟩
  · rw [hrow, phaseStep_of_not_idle hs]
  · refine ⟨tick true s, complete_of_wf hwf _, tick_guard_of_accept (accept_iff.mpr ⟨rfl, hprev, hguard⟩),
      tick_heartbeat_of_not_idle hdone hs true, ?_⟩
    exact (complete_of_wf (s := { s with zcPrev := true }) hwf _).trans
      (congrArg Host.Outcome.next (tick_of_high_input hdone hs))

/-! ### A forced invalid state (R104, R115) -/

theorem tick_of_invalid {s : State} (hdone : s.calPhase = .done) (hs : 4 ≤ s.ctrlState.toNat) (z : Bool) :
    tick z s = { edgeStep z s with gate := false, ctrlState := ctrlIdle, rdata := none } := by
  rw [tick_run hdone, phaseStep_invalid (s := edgeStep z s) hs]
  rfl

/-- Settles O56: the WRITE puts the invalid value into CTRL_STATE, and the TICK heals it. -/
theorem forcedInvalidStateHealsInOneTick : Obligations.ForcedInvalidStateHealsInOneTick := by
  intro s v z hwf hdone hv
  refine ⟨_, runWords_of_wf _ hwf, ?_⟩
  have htick := tick_of_invalid (s := hostWrite 0x9 v s) hdone hv z
  rw [List.foldl_cons, List.foldl_cons, List.foldl_nil, wordStep_writeWord, wordStep_tickWord, htick]
  exact ⟨rfl, rfl, rfl, rfl⟩

/-! ### What a word makes of phase control -/

/-- A word that writes no FORCE_STATE is a TICK, or it is RST, or it writes DIM_TARGET and what was returned at most, and
DIM_TARGET only if it is the WRITE of it. -/
theorem wordStep_unforced_cases {w : OpWord} (hforce : isForce (decodeWord w) = false) (s : State) :
    (isTickWord w = true ∧ wordStep s w = tick (zcField w) s) ∨
    (isTickWord w = false ∧ isRst (decodeWord w) = true ∧ wordStep s w = resetStep s) ∨
    (isTickWord w = false ∧ ∃ d r, wordStep s w = { s with dimTarget := d, rdata := r } ∧
      (isDimWrite (decodeWord w) = false → d = s.dimTarget)) := by
  have hnot : ¬ (isIllegalWord w = false ∧ opField w = 0) → isTickWord w = false := fun h =>
    Bool.eq_false_iff.mpr (mt (isTickWord_iff w).mp h)
  rcases wordStep_cases w with ⟨hw, h⟩ | ⟨hw, hop, h⟩ | ⟨hw, hop, h⟩ | ⟨hw, hop, h⟩ | ⟨hw, hop, h⟩ <;> rw [h]
  · exact .inr (.inr ⟨hnot (by simp [hw]), _, _, rfl, fun _ => rfl⟩)
  · exact .inl ⟨(isTickWord_iff w).mpr ⟨hw, hop⟩, rfl⟩
  · refine .inr (.inr ⟨hnot (by simp [hop]), ?_⟩)
    have hdecode : decodeWord w = decodeWrite (addrField w) (dataField w) := by simp [decodeWord, hw, hop]
    rcases hostRegisterWrite_cases (addrField w) (dataField w) s with ⟨ha, h⟩ | ⟨ha, -⟩ | ⟨-, -, h⟩
    · rw [hostWrite, h, hdecode, ha]
      exact ⟨_, _, rfl, nofun⟩
    · rw [hdecode, ha] at hforce
      cases hforce
    · rw [hostWrite, h]
      exact ⟨_, _, rfl, fun _ => rfl⟩
  · exact .inr (.inr ⟨hnot (by simp [hop]), _, _, rfl, fun _ => rfl⟩)
  · exact .inr (.inl ⟨hnot (by simp [hop]), by simp [decodeWord, hw, hop, isRst], rfl⟩)

theorem undisturbed_iff {ws : List OpWord} :
    undisturbed ws = true ↔ ∀ w ∈ ws, isRst (decodeWord w) = false ∧ isForce (decodeWord w) = false := by
  simp [undisturbed]

theorem undisturbedConstantDim_iff {ws : List OpWord} :
    undisturbedConstantDim ws = true ↔ undisturbed ws = true ∧ ∀ w ∈ ws, isDimWrite (decodeWord w) = false := by
  simp [undisturbedConstantDim]

theorem unforced_cons {w : OpWord} {ws : List OpWord} :
    unforced (w :: ws) = true ↔ isForce (decodeWord w) = false ∧ unforced ws = true := by
  simp [unforced]

/-- A word of an undisturbed stream that is no TICK writes DIM_TARGET and what was returned at most. -/
theorem wordStep_undisturbed {w : OpWord} (hrst : isRst (decodeWord w) = false) (hforce : isForce (decodeWord w) = false)
    (hw : isTickWord w = false) (s : State) :
    ∃ d r, wordStep s w = { s with dimTarget := d, rdata := r } ∧ (isDimWrite (decodeWord w) = false → d = s.dimTarget) := by
  rcases wordStep_unforced_cases hforce s with ⟨h, -⟩ | ⟨-, h, -⟩ | ⟨-, h⟩
  · rw [h] at hw; cases hw
  · rw [h] at hrst; cases hrst
  · exact h

theorem wordStep_of_isTickWord {w : OpWord} (hw : isTickWord w = true) (s : State) :
    wordStep s w = tick (zcField w) s := by
  rcases wordStep_guard_cases s w with ⟨-, h⟩ | ⟨h, -⟩ | ⟨h, -⟩
  · exact h
  all_goals rw [h] at hw; cases hw

theorem tick_dimTarget (z : Bool) (s : State) : (tick z s).dimTarget = s.dimTarget := by
  obtain ⟨-, -, hdim, -⟩ := modeDispatch_frame z (calEvent z s) (accept z s) (edgeStep z s)
  exact hdim

/-- The induction of the claims that count TICKs: what each TICK takes from `n` to `n + 1` below `N`, and every other word
keeps, holds at the number of TICKs of the run. -/
theorem foldl_wordStep_counts {P : Nat → State → Prop} {N : Nat} (htick : ∀ n s z, n < N → P n s → P (n + 1) (tick z s))
    (ws : List OpWord) : ∀ {n : Nat} {s : State},
    (∀ w ∈ ws, isTickWord w = false → ∀ n s, P n s → P n (wordStep s w)) → P n s → n + ticksIn ws ≤ N →
    P (n + ticksIn ws) (ws.foldl wordStep s) := by
  induction ws with
  | nil => exact fun _ h _ => h
  | cons w ws ih =>
    intro n s hhost h hN
    obtain ⟨hw, hws⟩ := List.forall_mem_cons.mp hhost
    rw [ticksIn_cons] at hN ⊢
    rw [List.foldl_cons]
    cases hkind : isTickWord w <;> rw [hkind] at hN
    case false => exact ih hws (hw hkind n s h) hN
    case true =>
      rw [if_pos rfl] at hN ⊢
      rw [wordStep_of_isTickWord hkind, show n + (ticksIn ws + 1) = n + 1 + ticksIn ws by omega]
      exact ih hws (htick n s _ (by omega) h) (by omega)

/-! ### One TICK in each state of a cycle -/

/-- RUN mode under `c`, with CTRL_STATE `q`, PHASE_CNT `k`, GATE `g` and HEARTBEAT `b`. -/
structure PulseState (c : Config) (q : Reg8) (k : Nat) (g b : Bool) (s : State) : Prop where
  cfg : s.cfg = c
  done : s.calPhase = .done
  ctrl : s.ctrlState = q
  cnt : s.phaseCnt.toNat = k
  gate : s.gate = g
  heartbeat : s.heartbeat = b

/-- R7's limits on the three lengths that phase control counts to: none is 0, and PHASE_CNT reaches each without wrapping. -/
theorem phaseLimits_of_wf {c : Config} (h : c.WF) :
    (1 ≤ c.zcOffset ∧ c.zcOffset ≤ 0xFFFE) ∧ (1 ≤ c.triggerPulseWidth ∧ c.triggerPulseWidth ≤ 0xFFFE) ∧
    (1 ≤ c.safetyTimeout ∧ c.safetyTimeout ≤ 0xFFFE) := by
  obtain ⟨-, -, -, -, -, -, -, hlimits⟩ := h
  exact hlimits

section
variable {c : Config} {q : Reg8} {d k n : Nat} {g b : Bool} {s : State}

theorem PulseState.after_host (S : PulseState c q k g b s) (v : Reg16) (r : Option Reg16) :
    PulseState c q k g b { s with dimTarget := v, rdata := r } :=
  ⟨S.cfg, S.done, S.ctrl, S.cnt, S.gate, S.heartbeat⟩

theorem PulseState.after_edgeStep (S : PulseState c q k g b s) (z : Bool) : PulseState c q k g b (edgeStep z s) :=
  ⟨S.cfg, S.done, S.ctrl, S.cnt, S.gate, S.heartbeat⟩

/-- A TICK leaves of phase control what its state rule leaves. -/
theorem pulseState_tick {z : Bool} (hdone : s.calPhase = .done)
    (S : PulseState c q k g b (phaseStep (accept z s) (edgeStep z s))) : PulseState c q k g b (tick z s) := by
  rw [tick_run hdone]
  exact S.after_host _ _

theorem PulseState.count (S : PulseState c q k g b s) (hk : k < 0xFFFF) : (inc16 s.phaseCnt).toNat = k + 1 := by
  rw [inc16_toNat_of_lt _ (S.cnt.symm ▸ hk), S.cnt]

/-- IDLE takes the edge (R100). -/
theorem pulseState_of_edge {z : Bool} (hdone : s.calPhase = .done) (hs : s.ctrlState = 0) (hacc : accept z s = true) :
    PulseState s.cfg 1 0 s.gate (!s.heartbeat) (tick z s) := by
  apply pulseState_tick hdone
  rw [hacc, phaseStep_idle (s := edgeStep z s) hs]
  exact ⟨rfl, hdone, rfl, rfl, rfl, rfl⟩

/-- OFFSET counts up to ZC_OFFSET, where it goes on to DELAY (R101). -/
theorem PulseState.tick_offset (S : PulseState c 1 k g b s) (hk : k < 0xFFFF) (z : Bool) :
    (k + 1 < c.zcOffset ∧ PulseState c 1 (k + 1) g b (tick z s)) ∨
    (c.zcOffset ≤ k + 1 ∧ PulseState c 2 0 g b (tick z s)) := by
  have E := S.after_edgeStep z
  have hcount := E.count hk
  have hstep := phaseStep_offset E.ctrl (accept z s)
  rcases offsetStep_cases (edgeStep z s) with ⟨hge, h⟩ | ⟨hlt, h⟩ <;> rw [h] at hstep
  · rw [E.cfg, hcount] at hge
    exact .inr ⟨hge, pulseState_tick S.done (hstep ▸ ⟨E.cfg, E.done, rfl, rfl, E.gate, E.heartbeat⟩)⟩
  · rw [E.cfg, hcount] at hlt
    exact .inl ⟨hlt, pulseState_tick S.done (hstep ▸ ⟨E.cfg, E.done, E.ctrl, hcount, E.gate, E.heartbeat⟩)⟩

/-- DELAY fires at an armed DIM_TARGET, else times out at SAFETY_TIMEOUT, else counts (R102). -/
theorem PulseState.tick_delay (S : PulseState c 2 k g b s) (hd : s.dimTarget.toNat = d) (hk : k < 0xFFFF) (z : Bool) :
    ((d ≤ k + 1 ∧ armed c d = true) ∧ PulseState c 3 0 true b (tick z s)) ∨
    (¬ (d ≤ k + 1 ∧ armed c d = true) ∧ c.safetyTimeout ≤ k + 1 ∧ PulseState c 0 (k + 1) false b (tick z s)) ∨
    (¬ (d ≤ k + 1 ∧ armed c d = true) ∧ k + 1 < c.safetyTimeout ∧ PulseState c 2 (k + 1) g b (tick z s)) := by
  have E := S.after_edgeStep z
  have hcount := E.count hk
  have hstep := phaseStep_delay E.ctrl (accept z s)
  have hfires : delayFires (edgeStep z s) ↔ d ≤ k + 1 ∧ armed c d = true := by
    have hdim : (edgeStep z s).dimTarget.toNat = d := hd
    rw [delayFires, hdim, hcount, E.cfg]
  have hlimit : (edgeStep z s).cfg.safetyTimeout = c.safetyTimeout := by rw [E.cfg]
  rw [← hfires, ← hlimit, ← hcount]
  by_cases hfire : delayFires (edgeStep z s)
  · rw [delayStep_of_fires hfire] at hstep
    exact .inl ⟨hfire, pulseState_tick S.done (hstep ▸ ⟨E.cfg, E.done, rfl, rfl, rfl, E.heartbeat⟩)⟩
  rcases Nat.lt_or_ge (inc16 (edgeStep z s).phaseCnt).toNat (edgeStep z s).cfg.safetyTimeout with hlt | hge
  · rw [delayStep_of_counts hfire hlt] at hstep
    exact .inr (.inr ⟨hfire, hlt, pulseState_tick S.done (hstep ▸ ⟨E.cfg, E.done, E.ctrl, rfl, E.gate, E.heartbeat⟩)⟩)
  · rw [delayStep_of_timeout hfire hge] at hstep
    exact .inr (.inl ⟨hfire, hge, pulseState_tick S.done (hstep ▸ ⟨E.cfg, E.done, rfl, rfl, rfl, E.heartbeat⟩)⟩)

/-- TRIGGER counts up to TRIGGER_PULSE_WIDTH, where it ends the pulse (R103). -/
theorem PulseState.tick_trigger (S : PulseState c 3 k g b s) (hk : k < 0xFFFF) (z : Bool) :
    (k + 1 < c.triggerPulseWidth ∧ PulseState c 3 (k + 1) g b (tick z s)) ∨
    (c.triggerPulseWidth ≤ k + 1 ∧ PulseState c 0 (k + 1) false b (tick z s)) := by
  have E := S.after_edgeStep z
  have hcount := E.count hk
  have hstep := phaseStep_trigger E.ctrl (accept z s)
  rcases triggerStep_cases (edgeStep z s) with ⟨hge, h⟩ | ⟨hlt, h⟩ <;> rw [h] at hstep
  · rw [E.cfg, hcount] at hge
    exact .inr ⟨hge, pulseState_tick S.done (hstep ▸ ⟨E.cfg, E.done, rfl, hcount, rfl, E.heartbeat⟩)⟩
  · rw [E.cfg, hcount] at hlt
    exact .inl ⟨hlt, pulseState_tick S.done (hstep ▸ ⟨E.cfg, E.done, E.ctrl, hcount, E.gate, E.heartbeat⟩)⟩

/-! ### The pulse (R108) -/

/-- Where the pulse stands `n` TICKs after its fire: held in TRIGGER, or ended after TRIGGER_PULSE_WIDTH of them. -/
inductive PulseAfter (c : Config) (b : Bool) (n : Nat) (s : State) : Prop
  | held (hn : n < c.triggerPulseWidth) (S : PulseState c 3 n true b s)
  | ended (hn : n = c.triggerPulseWidth) (S : PulseState c 0 n false b s)

theorem PulseAfter.after_host (h : PulseAfter c b n s) (v : Reg16) (r : Option Reg16) :
    PulseAfter c b n { s with dimTarget := v, rdata := r } := by
  cases h with
  | held hn S => exact .held hn (S.after_host v r)
  | ended hn S => exact .ended hn (S.after_host v r)

theorem PulseAfter.tick (hwf : c.WF) (h : PulseAfter c b n s) (hlt : n < c.triggerPulseWidth) (z : Bool) :
    PulseAfter c b (n + 1) (tick z s) := by
  obtain ⟨-, ⟨-, hwidth⟩, -⟩ := phaseLimits_of_wf hwf
  cases h with
  | held hn S =>
    rcases S.tick_trigger (by omega) z with ⟨hmore, S'⟩ | ⟨hend, S'⟩
    · exact .held hmore S'
    · exact .ended (by omega) S'
  | ended hn => omega

theorem PulseAfter.run {ws : List OpWord} (hwf : c.WF) (h : PulseAfter c b 0 s) (hws : undisturbed ws = true)
    (hticks : ticksIn ws ≤ c.triggerPulseWidth) : PulseAfter c b (ticksIn ws) (ws.foldl wordStep s) := by
  have hrun := foldl_wordStep_counts (P := PulseAfter c b) (fun n s z hn h => h.tick hwf hn z) ws (n := 0)
    (fun w hmem hw n s h => ?_) h (by omega)
  · rwa [Nat.zero_add] at hrun
  · obtain ⟨hrst, hforce⟩ := undisturbed_iff.mp hws w hmem
    obtain ⟨v, r, hstep, -⟩ := wordStep_undisturbed hrst hforce hw s
    rw [hstep]
    exact h.after_host v r

/-! ### The cycle (R107, R109, R110) -/

/-- The TICKs that DELAY takes: `max(D, 1)` to the fire where D is armed, SAFETY_TIMEOUT to the timeout where it is not. -/
def delayTicks (c : Config) (d : Nat) : Nat := if armed c d then max d 1 else c.safetyTimeout

theorem delayTicks_of_armed (h : armed c d = true) : delayTicks c d = max d 1 := if_pos h

theorem delayTicks_of_off (h : armed c d = false) : delayTicks c d = c.safetyTimeout := if_neg (Bool.eq_false_iff.mp h)

theorem cycleTicks_of_armed (h : armed c d = true) : cycleTicks c d = fireTicks c d + c.triggerPulseWidth := if_pos h

theorem cycleTicks_of_off (h : armed c d = false) : cycleTicks c d = timeoutTicks c := if_neg (Bool.eq_false_iff.mp h)

theorem le_safetyTimeout_of_armed (h : armed c d = true) : d ≤ c.safetyTimeout := by
  rcases armed_iff.mp h with hlt | ⟨-, heq⟩
  · exact hlt.le
  · exact heq.le

theorem delayTicks_bounds (hwf : c.WF) (d : Nat) : 1 ≤ delayTicks c d ∧ delayTicks c d ≤ c.safetyTimeout := by
  obtain ⟨-, -, ⟨htimeout, -⟩⟩ := phaseLimits_of_wf hwf
  cases harmed : armed c d
  · rw [delayTicks_of_off harmed]
    exact ⟨htimeout, le_refl _⟩
  · have hle := le_safetyTimeout_of_armed harmed
    rw [delayTicks_of_armed harmed]
    omega

/-- A cycle ends after DELAY or with the pulse. -/
theorem delay_le_cycleTicks (c : Config) (d : Nat) : c.zcOffset + delayTicks c d ≤ cycleTicks c d := by
  cases harmed : armed c d
  · rw [delayTicks_of_off harmed, cycleTicks_of_off harmed]
    exact le_refl _
  · rw [delayTicks_of_armed harmed, cycleTicks_of_armed harmed]
    exact Nat.le_add_right _ _

/-- Where a cycle of DIM_TARGET `d`, begun with GATE `g`, stands `n` TICKs after its edge. -/
inductive CycleAfter (c : Config) (d : Nat) (g b : Bool) (n : Nat) (s : State) : Prop
  | offset (hn : n < c.zcOffset) (S : PulseState c 1 n g b s)
  | delay (k : Nat) (hn : n = c.zcOffset + k) (hk : k < delayTicks c d) (S : PulseState c 2 k g b s)
  | pulse (k : Nat) (harmed : armed c d = true) (hn : n = fireTicks c d + k) (hpulse : PulseAfter c b k s)
  | timedOut (hoff : armed c d = false) (hn : n = timeoutTicks c) (S : PulseState c 0 c.safetyTimeout false b s)

theorem CycleAfter.after_host (h : CycleAfter c d g b n s) (v : Reg16) (r : Option Reg16) :
    CycleAfter c d g b n { s with dimTarget := v, rdata := r } := by
  cases h with
  | offset hn S => exact .offset hn (S.after_host v r)
  | delay k hn hk S => exact .delay k hn hk (S.after_host v r)
  | pulse k harmed hn hpulse => exact .pulse k harmed hn (hpulse.after_host v r)
  | timedOut hoff hn S => exact .timedOut hoff hn (S.after_host v r)

/-- DELAY's TICK fires or times out as the last of its `delayTicks`, and counts before. -/
theorem cycleAfter_tick_delay (hwf : c.WF) (S : PulseState c 2 k g b s) (hd : s.dimTarget.toNat = d)
    (hk : k < delayTicks c d) (z : Bool) : CycleAfter c d g b (c.zcOffset + k + 1) (tick z s) := by
  obtain ⟨-, hle⟩ := delayTicks_bounds hwf d
  obtain ⟨-, ⟨hwidth, -⟩, ⟨-, htimeout⟩⟩ := phaseLimits_of_wf hwf
  rcases S.tick_delay hd (by omega) z with ⟨⟨hreach, harmed⟩, S'⟩ | ⟨hnot, hlimit, S'⟩ | ⟨hnot, hmore, S'⟩
  · rw [delayTicks_of_armed harmed] at hk
    exact .pulse 0 harmed (by rw [fireTicks]; omega) (.held hwidth S')
  · have hoff : armed c d = false := Bool.eq_false_iff.mpr fun harmed =>
      hnot ⟨(le_safetyTimeout_of_armed harmed).trans hlimit, harmed⟩
    have hlast : k + 1 = c.safetyTimeout := by omega
    exact .timedOut hoff (by rw [timeoutTicks]; omega) (hlast ▸ S')
  · refine .delay (k + 1) rfl ?_ S'
    cases harmed : armed c d
    · rwa [delayTicks_of_off harmed]
    · have hbefore : ¬ d ≤ k + 1 := fun hreach => hnot ⟨hreach, harmed⟩
      rw [delayTicks_of_armed harmed]
      omega

theorem CycleAfter.tick (hwf : c.WF) (h : CycleAfter c d g b n s) (hd : s.dimTarget.toNat = d)
    (hlt : n < cycleTicks c d) (z : Bool) : CycleAfter c d g b (n + 1) (tick z s) := by
  cases h with
  | offset hn S =>
    obtain ⟨hdelay, -⟩ := delayTicks_bounds hwf d
    obtain ⟨⟨-, hoffset⟩, -⟩ := phaseLimits_of_wf hwf
    rcases S.tick_offset (by omega) z with ⟨hmore, S'⟩ | ⟨hend, S'⟩
    · exact .offset hmore S'
    · exact .delay 0 (by omega) hdelay S'
  | delay k hn hk S => rw [hn]; exact cycleAfter_tick_delay hwf S hd hk z
  | pulse k harmed hn hpulse =>
    rw [cycleTicks_of_armed harmed] at hlt
    exact .pulse (k + 1) harmed (by omega) (hpulse.tick hwf (by omega) z)
  | timedOut hoff hn => rw [cycleTicks_of_off hoff] at hlt; omega

/-- The cycle with its DIM_TARGET still in place, as R107 asks: "D is constant". -/
structure ConstantDimCycle (c : Config) (d : Nat) (g b : Bool) (n : Nat) (s : State) : Prop where
  dim : s.dimTarget.toNat = d
  after : CycleAfter c d g b n s

theorem ConstantDimCycle.tick (hwf : c.WF) (C : ConstantDimCycle c d g b n s) (hlt : n < cycleTicks c d) (z : Bool) :
    ConstantDimCycle c d g b (n + 1) (tick z s) :=
  ⟨by rw [tick_dimTarget, C.dim], C.after.tick hwf C.dim hlt z⟩

theorem ConstantDimCycle.run {ws : List OpWord} (hwf : c.WF) (C : ConstantDimCycle c d g b 0 s)
    (hws : undisturbedConstantDim ws = true) (hticks : ticksIn ws ≤ cycleTicks c d) :
    ConstantDimCycle c d g b (ticksIn ws) (ws.foldl wordStep s) := by
  obtain ⟨hquiet, hdim⟩ := undisturbedConstantDim_iff.mp hws
  have hrun := foldl_wordStep_counts (P := ConstantDimCycle c d g b) (fun n s z hn C => C.tick hwf hn z) ws (n := 0)
    (fun w hmem hw n s C => ?_) C (by omega)
  · rwa [Nat.zero_add] at hrun
  · obtain ⟨hrst, hforce⟩ := undisturbed_iff.mp hquiet w hmem
    obtain ⟨v, r, hstep, hkeep⟩ := wordStep_undisturbed hrst hforce hw s
    obtain rfl := hkeep (hdim w hmem)
    rw [hstep]
    exact ⟨C.dim, C.after.after_host _ r⟩

theorem CycleAfter.heartbeat_eq (h : CycleAfter c d g b n s) : s.heartbeat = b := by
  cases h with
  | offset _ S | delay _ _ _ S | timedOut _ _ S => exact S.heartbeat
  | pulse _ _ _ hpulse =>
    cases hpulse with
    | held _ S | ended _ S => exact S.heartbeat

/-- The cycle is in IDLE exactly at its end (R110). -/
theorem CycleAfter.idle_iff (h : CycleAfter c d g b n s) : s.ctrlState = 0 ↔ n = cycleTicks c d := by
  have hle := delay_le_cycleTicks c d
  cases h with
  | offset hn S => simp [S.ctrl]; omega
  | delay k hn hk S => simp [S.ctrl]; omega
  | pulse k harmed hn hpulse =>
    rw [cycleTicks_of_armed harmed, hn]
    cases hpulse with
    | held hk S => simp [S.ctrl]; omega
    | ended hk S => simp [S.ctrl, hk]
  | timedOut hoff hn S => simp [S.ctrl, cycleTicks_of_off hoff, hn]

/-- Before DELAY ends GATE is as the cycle found it, in OFFSET or in DELAY. -/
theorem CycleAfter.before (h : CycleAfter c d g b n s) (hn : n < c.zcOffset + delayTicks c d) :
    s.gate = g ∧ s.ctrlState = if n < c.zcOffset then 1 else 2 := by
  cases h with
  | offset hlt S => rw [if_pos hlt]; exact ⟨S.gate, S.ctrl⟩
  | delay k hk _ S => rw [if_neg (by omega)]; exact ⟨S.gate, S.ctrl⟩
  | pulse k harmed hk => rw [delayTicks_of_armed harmed] at hn; rw [fireTicks] at hk; omega
  | timedOut hoff hk => rw [delayTicks_of_off hoff] at hn; rw [timeoutTicks] at hk; omega

/-- An armed cycle fires with the last TICK of DELAY (R107). -/
theorem CycleAfter.fired (hwf : c.WF) (h : CycleAfter c d g b n s) (harmed : armed c d = true)
    (hn : n = fireTicks c d) : PulseState c 3 0 true b s := by
  obtain ⟨-, ⟨hwidth, -⟩, -⟩ := phaseLimits_of_wf hwf
  rw [fireTicks] at hn
  cases h with
  | offset hlt => omega
  | delay k hk hlt => rw [delayTicks_of_armed harmed] at hlt; omega
  | pulse k _ hk hpulse =>
    obtain rfl : k = 0 := by rw [fireTicks] at hk; omega
    cases hpulse with
    | held _ S => exact S
    | ended hend => omega
  | timedOut hoff => rw [harmed] at hoff; cases hoff

/-- An OFF cycle times out with the last TICK of DELAY (R109). -/
theorem CycleAfter.timedOut_state (h : CycleAfter c d g b n s) (hoff : armed c d = false)
    (hn : n = timeoutTicks c) : PulseState c 0 c.safetyTimeout false b s := by
  rw [timeoutTicks] at hn
  cases h with
  | offset hlt => omega
  | delay k hk hlt => rw [delayTicks_of_off hoff] at hlt; omega
  | pulse k harmed => rw [hoff] at harmed; cases harmed
  | timedOut _ _ S => exact S

end

/-- The run of a cycle: an edge taken in IDLE, and any undisturbed words that hold no more than the cycle's TICKs. -/
theorem runWords_cycle {s : State} {ws : List OpWord} (hwf : s.cfg.WF) (hdone : s.calPhase = .done)
    (hs : s.ctrlState = 0) (hacc : accept true s = true) (hws : undisturbedConstantDim ws = true)
    (hticks : ticksIn ws ≤ cycleTicks s.cfg s.dimTarget.toNat) :
    ∃ t, runWords (tickWord true :: ws) s = .next t ∧
      CycleAfter s.cfg s.dimTarget.toNat s.gate (!s.heartbeat) (ticksIn ws) t := by
  have hstart : ConstantDimCycle s.cfg s.dimTarget.toNat s.gate (!s.heartbeat) 0 (tick true s) := by
    obtain ⟨⟨hoffset, -⟩, -⟩ := phaseLimits_of_wf hwf
    exact ⟨by rw [tick_dimTarget], .offset hoffset (pulseState_of_edge hdone hs hacc)⟩
  refine ⟨_, runWords_of_wf _ hwf, ?_⟩
  rw [List.foldl_cons, wordStep_tickWord]
  exact (hstart.run hwf hws hticks).after

/-- Settles O51: before the fire the cycle is in OFFSET or DELAY, and at it DELAY has taken its `max(D, 1)` TICKs. -/
theorem armedCycleFiresOnTime : Obligations.ArmedCycleFiresOnTime := by
  intro s ws hwf hdone hs hprev hguard harmed hws
  have hfire : s.cfg.zcOffset + delayTicks s.cfg s.dimTarget.toNat = fireTicks s.cfg s.dimTarget.toNat := by
    rw [delayTicks_of_armed harmed]; rfl
  have hrun := runWords_cycle hwf hdone hs (accept_iff.mpr ⟨rfl, hprev, hguard⟩) hws
  have hcycle := delay_le_cycleTicks s.cfg s.dimTarget.toNat
  rw [hfire] at hcycle
  refine ⟨fun hn => ?before, fun hn => ?fire⟩
  case before =>
    obtain ⟨t, hnext, hafter⟩ := hrun (hn.le.trans hcycle)
    exact ⟨t, hnext, hafter.before (hfire.symm ▸ hn)⟩
  case fire =>
    obtain ⟨t, hnext, hafter⟩ := hrun (hn.le.trans hcycle)
    have S := hafter.fired hwf harmed hn
    exact ⟨t, hnext, S.gate, S.ctrl, BitVec.eq_of_toNat_eq S.cnt⟩

/-- Settles O52: the pulse is held until its last TICK, which ends it. -/
theorem pulseLastsItsWidth : Obligations.PulseLastsItsWidth := by
  intro s ws hwf hdone hs hcnt hgate hws
  have hstart : PulseAfter s.cfg s.heartbeat 0 s := by
    obtain ⟨-, ⟨hwidth, -⟩, -⟩ := phaseLimits_of_wf hwf
    exact .held hwidth ⟨rfl, hdone, hs, by rw [hcnt]; rfl, hgate, rfl⟩
  refine ⟨fun hn => ⟨_, runWords_of_wf ws hwf, ?held⟩, fun hn => ⟨_, runWords_of_wf ws hwf, ?ended⟩⟩
  case held =>
    cases hstart.run hwf hws hn.le with
    | held _ S => exact ⟨S.gate, S.ctrl⟩
    | ended hend => omega
  case ended =>
    cases hstart.run hwf hws hn.le with
    | held hlt => omega
    | ended hend S => exact ⟨S.gate, S.ctrl, S.cnt.trans hend⟩

/-- Settles O53: before the timeout the cycle is in OFFSET or DELAY, and at it DELAY has taken its SAFETY_TIMEOUT TICKs. -/
theorem offCycleTimesOut : Obligations.OffCycleTimesOut := by
  intro s ws hwf hdone hs hprev hguard hoff hws
  have hrun := runWords_cycle hwf hdone hs (accept_iff.mpr ⟨rfl, hprev, hguard⟩) hws
  have hend := cycleTicks_of_off hoff
  refine ⟨fun hn => ?before, fun hn => ?timeout⟩
  case before =>
    obtain ⟨t, hnext, hafter⟩ := hrun (hn.le.trans hend.ge)
    obtain ⟨hgate, -⟩ := hafter.before (by rwa [delayTicks_of_off hoff])
    exact ⟨t, hnext, hgate, mt hafter.idle_iff.mp (by rw [hend]; exact hn.ne)⟩
  case timeout =>
    obtain ⟨t, hnext, hafter⟩ := hrun (hn.le.trans hend.ge)
    have S := hafter.timedOut_state hoff hn
    exact ⟨t, hnext, S.gate, S.ctrl, S.cnt⟩

/-- Settles O54: along the whole cycle HEARTBEAT is as its edge left it, and only its end is in IDLE. -/
theorem cycleTakesNoOtherEdge : Obligations.CycleTakesNoOtherEdge := by
  intro s ws hwf hdone hs hprev hguard hws hticks
  obtain ⟨t, hnext, hafter⟩ := runWords_cycle hwf hdone hs (accept_iff.mpr ⟨rfl, hprev, hguard⟩) hws hticks
  exact ⟨t, hnext, hafter.heartbeat_eq, hafter.idle_iff⟩

/-! ### Back to IDLE in an unforced run (R112) -/

/-- How many TICKs phase control needs at most to be back in IDLE, from PHASE_CNT `k` in state `q` under `c`. -/
def idleBound (c : Config) (q : Reg8) (k : Nat) : Nat :=
  if q = 1 then (c.zcOffset - k) + c.safetyTimeout + c.triggerPulseWidth
  else if q = 2 then (c.safetyTimeout - k) + c.triggerPulseWidth
  else if q = 3 then c.triggerPulseWidth - k
  else 0

theorem idleBound_idle (c : Config) (k : Nat) : idleBound c 0 k = 0 := rfl

theorem idleBound_offset (c : Config) (k : Nat) :
    idleBound c 1 k = (c.zcOffset - k) + c.safetyTimeout + c.triggerPulseWidth := rfl

theorem idleBound_delay (c : Config) (k : Nat) : idleBound c 2 k = (c.safetyTimeout - k) + c.triggerPulseWidth := rfl

theorem idleBound_trigger (c : Config) (k : Nat) : idleBound c 3 k = c.triggerPulseWidth - k := rfl

theorem idleBound_le (c : Config) (q : Reg8) (k : Nat) :
    idleBound c q k ≤ c.zcOffset + c.safetyTimeout + c.triggerPulseWidth := by
  rw [idleBound]
  split_ifs <;> omega

/-- The bound of a state. -/
def ticksToIdle (s : State) : Nat := idleBound s.cfg s.ctrlState s.phaseCnt.toNat

theorem PulseState.ticksToIdle_eq {c : Config} {q : Reg8} {k : Nat} {g b : Bool} {s : State} (S : PulseState c q k g b s) :
    ticksToIdle s = idleBound c q k := by
  rw [ticksToIdle, S.cfg, S.ctrl, S.cnt]

theorem trigger_of_gate {s : State} (hinv : UnforcedInv s) (h : s.gate = true) : s.ctrlState = 3 := by
  obtain ⟨-, -, hgate, -⟩ := hinv
  exact hgate.mp h

theorem done_of_not_idle {s : State} (hinv : UnforcedInv s) (hs : s.ctrlState ≠ 0) : s.calPhase = .done := by
  obtain ⟨-, hreset, -⟩ := hinv
  by_contra hcal
  obtain ⟨hidle, -⟩ := hreset hcal
  exact hs hidle

theorem gate_of_idle {s : State} (hinv : UnforcedInv s) (hs : s.ctrlState = 0) : s.gate = false := by
  obtain ⟨-, -, hgate, -⟩ := hinv
  rw [← Bool.not_eq_true, hgate, hs]
  decide

/-- Outside IDLE every TICK of an unforced run lowers the bound. -/
theorem tick_ticksToIdle_lt {s : State} (hinv : UnforcedInv s) (hs : s.ctrlState ≠ 0) (z : Bool) :
    ticksToIdle (tick z s) < ticksToIdle s := by
  have hdone := done_of_not_idle hinv hs
  have hpulse := pulseAt_of_unforcedInv hinv
  obtain ⟨⟨-, hoffset⟩, ⟨hwidth, hwidth'⟩, ⟨-, htimeout⟩⟩ := phaseLimits_of_wf hinv.1
  cases hpulse with
  | idle h => exact absurd h hs
  | offset h _ hcnt =>
    have S : PulseState s.cfg 1 _ _ _ s := ⟨rfl, hdone, h, rfl, rfl, rfl⟩
    rw [S.ticksToIdle_eq, idleBound_offset]
    rcases S.tick_offset (by omega) z with ⟨hmore, S'⟩ | ⟨hend, S'⟩ <;> rw [S'.ticksToIdle_eq]
    · rw [idleBound_offset]; omega
    · rw [idleBound_delay]; omega
  | delay h _ hcnt =>
    have S : PulseState s.cfg 2 _ _ _ s := ⟨rfl, hdone, h, rfl, rfl, rfl⟩
    rw [S.ticksToIdle_eq, idleBound_delay]
    rcases S.tick_delay rfl (by omega) z with ⟨-, S'⟩ | ⟨-, -, S'⟩ | ⟨-, -, S'⟩ <;> rw [S'.ticksToIdle_eq]
    · rw [idleBound_trigger]; omega
    · rw [idleBound_idle]; omega
    · rw [idleBound_delay]; omega
  | trigger h _ hcnt =>
    have S : PulseState s.cfg 3 _ _ _ s := ⟨rfl, hdone, h, rfl, rfl, rfl⟩
    rw [S.ticksToIdle_eq, idleBound_trigger]
    rcases S.tick_trigger (by omega) z with ⟨hmore, S'⟩ | ⟨hend, S'⟩ <;> rw [S'.ticksToIdle_eq]
    · rw [idleBound_trigger]; omega
    · rw [idleBound_idle]; omega

/-- Every word of an unforced run lowers the bound by the TICKs it holds. -/
theorem wordStep_ticksToIdle_le {s : State} {w : OpWord} (hinv : UnforcedInv s) (hforce : isForce (decodeWord w) = false)
    (hs : s.ctrlState ≠ 0) : ticksToIdle (wordStep s w) + (if isTickWord w then 1 else 0) ≤ ticksToIdle s := by
  rcases wordStep_unforced_cases hforce s with ⟨hw, h⟩ | ⟨hw, -, h⟩ | ⟨hw, v, r, h, -⟩ <;> rw [hw, h]
  · exact tick_ticksToIdle_lt hinv hs _
  · exact Nat.zero_le _
  · exact le_refl (ticksToIdle s)

theorem wordStep_keeps_unforcedInv {s : State} {w : OpWord} (hinv : UnforcedInv s) (hforce : isForce (decodeWord w) = false) :
    UnforcedInv (wordStep s w) := by
  have hexec : exec (decodeWord w) s = .next (wordStep s w) := by rw [exec_decodeWord, complete_of_wf hinv.1]
  exact effect_keeps_unforcedInv (exec_effect hexec) hforce hinv

/-- Outside IDLE an unforced run is some TICKs away from it. -/
theorem ticksToIdle_pos {s : State} (hinv : UnforcedInv s) (hs : s.ctrlState ≠ 0) : 0 < ticksToIdle s :=
  (Nat.zero_le _).trans_lt (tick_ticksToIdle_lt hinv hs false)

/-- An unforced run with enough TICKs passes through IDLE, with GATE 0. -/
theorem idle_of_enough_ticks (ws : List OpWord) : ∀ {s : State}, UnforcedInv s → unforced ws = true →
    ticksToIdle s ≤ ticksIn ws → ∃ n, ((ws.take n).foldl wordStep s).ctrlState = 0 ∧
      ((ws.take n).foldl wordStep s).gate = false := by
  induction ws with
  | nil =>
    intro s hinv _ hticks
    have hs : s.ctrlState = 0 := by
      by_contra hne
      exact absurd (ticksToIdle_pos hinv hne) (not_lt.mpr hticks)
    exact ⟨0, hs, gate_of_idle hinv hs⟩
  | cons w ws ih =>
    intro s hinv hws hticks
    by_cases hs : s.ctrlState = 0
    · exact ⟨0, hs, gate_of_idle hinv hs⟩
    obtain ⟨hforce, hrest⟩ := unforced_cons.mp hws
    have hle := wordStep_ticksToIdle_le hinv hforce hs
    rw [ticksIn_cons] at hticks
    obtain ⟨n, hn⟩ := ih (wordStep_keeps_unforcedInv hinv hforce) hrest (by omega)
    exact ⟨n + 1, hn⟩

/-- Settles O55: a gate that is on is in TRIGGER, which alone is at most TRIGGER_PULSE_WIDTH TICKs away from IDLE. -/
theorem unforcedRunsReleaseTheGate : Obligations.UnforcedRunsReleaseTheGate := by
  intro s ws hinv hws
  refine ⟨fun hticks => ?gate, fun hticks => ?idle⟩
  case gate =>
    cases hgate : s.gate
    · exact ⟨0, s, rfl, hgate⟩
    · have hbound : ticksToIdle s ≤ s.cfg.triggerPulseWidth := by
        rw [ticksToIdle, trigger_of_gate hinv hgate, idleBound_trigger]
        exact Nat.sub_le _ _
      obtain ⟨n, -, hlow⟩ := idle_of_enough_ticks ws hinv hws (hbound.trans hticks)
      exact ⟨n, _, runWords_of_wf _ hinv.1, hlow⟩
  case idle =>
    obtain ⟨n, hidle, -⟩ := idle_of_enough_ticks ws hinv hws ((idleBound_le _ _ _).trans hticks)
    exact ⟨n, _, runWords_of_wf _ hinv.1, hidle⟩

end Sys2Proof.Machine
end

section
/-!
Family 44_host_ops.md: the WRITEs (R114 to R117) and the READs (R118 to R129) as the register accesses of their addresses,
and what no host operation changes (R130).
-/

namespace Sys2Proof.Machine

/-! ### The rows as register accesses -/

theorem exec_decodeWrite_of_wf {s : State} (hwf : s.cfg.WF) (a : Addr) (v : Reg16) :
    exec (decodeWrite a v) s = .next (hostWrite a v s) := by
  rw [exec_decodeWrite, complete_of_wf hwf]

theorem exec_decodeRead_of_wf {s : State} (hwf : s.cfg.WF) (a : Addr) :
    exec (decodeRead a) s = .next { s with rdata := some (hostRegister a s) } := by
  rw [exec_decodeRead, complete_of_wf hwf, hostRead_eq]

/-- Only DIM_TARGET (address 0) and FORCE_STATE (address 9) are written (R116, R117). -/
theorem hostWrite_of_ignored {a : Addr} (h0 : a ≠ 0) (h9 : a ≠ 9) (v : Reg16) (s : State) :
    hostWrite a v s = { s with rdata := none } := by
  rcases hostRegisterWrite_cases a v s with ⟨ha, -⟩ | ⟨ha, -⟩ | ⟨-, -, hsame⟩
  · exact absurd ha h0
  · exact absurd ha h9
  · rw [hostWrite, hsame]; rfl

/-- CAL_IDX is read with a zero byte above it (R127). -/
theorem calIdxWord_eq_ofNat (s : State) : calIdxWord s = BitVec.ofNat 16 s.calIdx.toNat := by
  rw [BitVec.ofNat_toNat, BitVec.setWidth_eq_append (by decide)]
  rfl

/-! ### What host operations leave unchanged (R130) -/

theorem writeRow_exec {i : Instr} (h : i.format = .write) : ∃ a v, ∀ s, exec i s = complete s (hostWrite a v s) := by
  cases i <;> cases h
  all_goals exact ⟨_, _, fun _ => rfl⟩

theorem readRow_exec {i : Instr} (h : i.format = .read) : ∃ a, ∀ s, exec i s = complete s (hostRead a s) := by
  cases i <;> cases h
  all_goals exact ⟨_, fun _ => rfl⟩

theorem illegalRow_exec {i : Instr} (h : i.format = .illegal) : ∃ r, ∀ s, exec i s = complete s (s.setRdata r) := by
  cases i <;> cases h
  exact ⟨_, fun _ => rfl⟩

theorem hostWrite_frame (a : Addr) (v : Reg16) (s : State) :
    hostWrite a v s =
      { s with ctrlState := (hostWrite a v s).ctrlState, dimTarget := (hostWrite a v s).dimTarget, rdata := none } := by
  rcases hostRegisterWrite_cases a v s with ⟨-, h⟩ | ⟨-, h⟩ | ⟨-, -, h⟩
  all_goals rw [hostWrite, h]; rfl

/-- An operation of the host, legal or illegal, acts on CTRL_STATE, DIM_TARGET and what is returned, and on nothing else. -/
theorem hostOperation_frame {i : Instr} {s t : State} (h : exec i s = .next t)
    (hformat : i.format = .write ∨ i.format = .read ∨ i.format = .illegal) :
    t = { s with ctrlState := t.ctrlState, dimTarget := t.dimTarget, rdata := t.rdata } := by
  rcases hformat with hwrite | hread | hillegal
  · obtain ⟨a, v, hexec⟩ := writeRow_exec hwrite
    obtain ⟨-, rfl⟩ := complete_eq_next.mp ((hexec s).symm.trans h)
    rw [hostWrite_frame]
  · obtain ⟨a, hexec⟩ := readRow_exec hread
    obtain ⟨-, rfl⟩ := complete_eq_next.mp ((hexec s).symm.trans h)
    rfl
  · obtain ⟨r, hexec⟩ := illegalRow_exec hillegal
    obtain ⟨-, rfl⟩ := complete_eq_next.mp ((hexec s).symm.trans h)
    rfl

/-- Settles O39: all elements but CTRL_STATE and DIM_TARGET are in the frame of a host operation. -/
theorem hostOperationsCountNoTick : Obligations.HostOperationsCountNoTick := by
  intro i s t h hformat
  rw [hostOperation_frame h hformat]
  exact ⟨rfl, rfl, rfl, rfl, rfl, rfl, rfl, rfl, rfl, rfl, rfl⟩

/-! ### Each WRITE and READ -/

/-- Settles O25: the WRITE of address 0. -/
theorem writeDimTargetStoresIt : Obligations.WriteDimTargetStoresIt :=
  fun _ v hwf => exec_decodeWrite_of_wf hwf 0x0 v

/-- Settles O26: the WRITE of address 9. -/
theorem writeForceStateSetsCtrlState : Obligations.WriteForceStateSetsCtrlState :=
  fun _ v hwf => exec_decodeWrite_of_wf hwf 0x9 v

/-- Settles O27: the fourteen rows are the WRITEs of the addresses other than 0 and 9. -/
theorem otherWritesAreIgnored : Obligations.OtherWritesAreIgnored := by
  intro s v i hwf hi
  obtain ⟨a, ha, rfl⟩ : ∃ a ∈ [0x1, 0x2, 0x3, 0x4, 0x5, 0x6, 0x7, 0x8, 0xA, 0xB, 0xC, 0xD, 0xE, 0xF],
      decodeWrite a v = i := List.mem_map.mp hi
  obtain ⟨h0, h9⟩ : a ≠ 0 ∧ a ≠ 9 := by clear hi; revert a; decide
  rw [exec_decodeWrite_of_wf hwf, hostWrite_of_ignored h0 h9]

/-- Settles O28: the sixteen rows are the READs of the addresses 0 to 15. -/
theorem readsReturnTheirRegisters : Obligations.ReadsReturnTheirRegisters := by
  intro s hwf
  have hread := exec_decodeRead_of_wf hwf
  have hidx : exec .rdCalIdx s = .next { s with rdata := some (BitVec.ofNat 16 s.calIdx.toNat) } := by
    rw [← calIdxWord_eq_ofNat]
    exact hread 0x8
  exact ⟨hread 0x0, hread 0x1, hread 0x2, hread 0x3, hread 0x4, hread 0x5, hread 0x6, hread 0x7, hidx, hread 0x9,
    hread 0xA, hread 0xB, hread 0xC, hread 0xD, hread 0xE, hread 0xF⟩

end Sys2Proof.Machine
end

section
/-!
Family 60_exceptions.md: no word raises an exception or leaves the machine stuck (R133, R135); an ill-formed Config is the one
cause of a refusal (R7, R10).
-/

namespace Sys2Proof.Machine

/-- Whatever the word, a step ends as `complete` says: taking the word leaves the configuration that decides it. -/
theorem step_eq_complete_wordStep {s : State} {w : OpWord} {rest : List OpWord} (h : s.ops = w :: rest) :
    step s = complete s (wordStep (s.setOps rest) w) := by
  rw [step_of_ops_cons h, exec_decodeWord, complete, complete, State.setOps_cfg]

/-- Settles O2: the next state is the effect of the word, legal or illegal, and Config.WF alone decides whether it is reached. -/
theorem everyWordCompletesUnlessConfigIsIllFormed : Obligations.EveryWordCompletesUnlessConfigIsIllFormed := by
  intro s w rest hops
  rw [step_eq_complete_wordStep hops]
  exact ⟨fun hwf => ⟨_, complete_of_wf hwf _⟩, fun hill => complete_of_not_wf hill _⟩

end Sys2Proof.Machine
end

section
/-!
Family 70_reset_and_hazards.md: the state that RESET and power-on leave (R147, R148), and the hazard of a GATE that a forced
IDLE leaves on (R155).
-/

namespace Sys2Proof.Machine

/-! ### A forced IDLE (R155) -/

section
variable {c : Config} {k : Nat} {g b : Bool} {s : State}

/-- Without an edge IDLE writes nothing, GATE included (R100). -/
theorem PulseState.tick_idle (S : PulseState c 0 k g b s) {z : Bool} (hacc : accept z s = false) :
    PulseState c 0 k g b (tick z s) := by
  have E := S.after_edgeStep z
  apply pulseState_tick S.done
  rw [hacc, phaseStep_idle E.ctrl]
  exact E

theorem PulseState.wordStep_idle (S : PulseState c 0 k g b s) {w : OpWord} (hrst : isRst (decodeWord w) = false)
    (hforce : isForce (decodeWord w) = false) (hacc : acceptsAt w s = false) : PulseState c 0 k g b (wordStep s w) := by
  cases hw : isTickWord w
  case false =>
    obtain ⟨v, r, hstep, -⟩ := wordStep_undisturbed hrst hforce hw s
    rw [hstep]
    exact S.after_host v r
  case true =>
    rw [acceptsAt, hw, Bool.true_and] at hacc
    rw [wordStep_of_isTickWord hw]
    exact S.tick_idle hacc

/-- Phase control stays in IDLE, with the GATE it began with, along any undisturbed run that accepts no edge. -/
theorem PulseState.run_idle (hwf : c.WF) (ws : List OpWord) : ∀ {s : State}, PulseState c 0 k g b s →
    undisturbed ws = true → countDuring acceptsAt ws s = 0 → PulseState c 0 k g b (ws.foldl wordStep s) := by
  induction ws with
  | nil => exact fun S _ _ => S
  | cons w ws ih =>
    intro s S hws hcount
    obtain ⟨⟨hrst, hforce⟩, hrest⟩ := List.forall_mem_cons.mp (undisturbed_iff.mp hws)
    obtain ⟨hacc, hcount'⟩ := (countDuring_cons_eq_zero (S.cfg.symm ▸ hwf)).mp hcount
    exact ih (S.wordStep_idle hrst hforce hacc) (undisturbed_iff.mpr hrest) hcount'

end

/-- Settles O57: IDLE without an edge and the host's words write neither GATE nor CTRL_STATE. -/
theorem forcedIdleKeepsTheGate : Obligations.ForcedIdleKeepsTheGate := by
  intro s ws hwf hdone hs hgate hws hcount
  have hstart : PulseState s.cfg 0 s.phaseCnt.toNat true s.heartbeat s := ⟨rfl, hdone, hs, rfl, hgate, rfl⟩
  have hend := PulseState.run_idle hwf ws hstart hws hcount
  exact ⟨_, runWords_of_wf ws hwf, hend.gate, hend.ctrl⟩

/-! ### The reset state (R147, R148) -/

/-- Settles O29: RST completes with the reset state of its configuration, which keeps the words still to take. -/
theorem rstResetsEveryElement : Obligations.RstResetsEveryElement := by
  intro s hwf
  have hexec : exec .rst s = .next (resetStep s) := complete_of_wf hwf _
  rw [hexec, resetStep_eq]
  rfl

/-- The one bit of STATUS that reset can set is ZC_PREV, which takes the idle level of the input (R33). -/
theorem statusWord_resetOf (c : Config) :
    statusWord (State.resetOf c) = if c.zcIdleLevel then 0x0040 else 0x0000 := by
  cases h : c.zcIdleLevel <;> simp [statusWord, h, mode, CalPhase.code]

/-- Settles O31: RC idles high, and each element is reset as its field lemma says. -/
theorem resetStateHoldsTheResetValues : Obligations.ResetStateHoldsTheResetValues := by
  refine ⟨rfl, statusWord_resetOf Config.rc, fun c => ?_⟩
  simp

/-- At reset GUARD and CAL_CNT are both 0. -/
theorem resetOf_guardTracksCalCnt {c : Config} (h : c.WF) : GuardTracksCalCnt (State.resetOf c) :=
  ⟨h, fun _ _ => rfl⟩

/-- Settles O44: each invariant by its own lemma. -/
theorem invariantsHoldAfterReset : Obligations.InvariantsHoldAfterReset :=
  fun _ hwf => ⟨resetOf_calInv hwf, resetOf_unforcedInv hwf, resetOf_guardTracksCalCnt hwf⟩

end Sys2Proof.Machine
end
